-- ==== Sys2Proof/Word.lean ====
section
/-! DEFINITION. The word types of the block, and a triple of colour lanes. -/

namespace Sys2Proof

/-- One word of the command stream (30_encoding.md R80). -/
abbrev Word := BitVec 32

/-- One word of the Pixel Store (20_memory.md R50, R53). -/
abbrev Pixel := BitVec 16

/-- Half a store word, as a host that views the store as bytes sees it (20_memory.md R54). -/
abbrev Byte := BitVec 8

/-- A triple of colour channels, one value for each of the three lanes (00_scope.md R10). -/
structure Lanes (α : Type) where
  /-- Red. -/
  r : α
  /-- Green. -/
  g : α
  /-- Blue. -/
  b : α
deriving DecidableEq, Repr

/-- Apply a per-channel operation lane by lane (00_scope.md R10). -/
def Lanes.map {α β : Type} (f : α → β) (c : Lanes α) : Lanes β :=
  ⟨f c.r, f c.g, f c.b⟩

/-- Apply a per-channel operation of two operands lane by lane (00_scope.md R10). -/
def Lanes.zip {α β γ : Type} (f : α → β → γ) (c : Lanes α) (d : Lanes β) : Lanes γ :=
  ⟨f c.r d.r, f c.g d.g, f c.b d.b⟩

/-- The same value in every lane. -/
def Lanes.fill {α : Type} (v : α) : Lanes α := ⟨v, v, v⟩

end Sys2Proof
end

