-- ==== Sys2Proof/Syntax.lean ====
section
/-! DEFINITION. The instructions: the four commands of the stream and the fifteen stage selectors of DS0,
one constructor of `Instr` per row of spec/opcode_table.json. -/

namespace Sys2Proof

/-- Colour depth mode, the field DEPTH of DS0 (30_encoding.md R85). -/
inductive Depth where
  /-- 0: 4-bit palette. -/
  | bpp4
  /-- 1: 8-bit palette. -/
  | bpp8
  /-- 2: 15-bit direct. -/
  | direct
  /-- 3: reserved, treated as direct (41_texture_palette_decoder.md R163). -/
  | rsvd
deriving DecidableEq, Repr

/-- Semi-transparency blend mode, the field BM of DS0 (R85). -/
inductive BlendMode where
  /-- 0: average. -/
  | avg
  /-- 1: additive. -/
  | add
  /-- 2: subtractive. -/
  | sub
  /-- 3: quarter-add. -/
  | qadd
deriving DecidableEq, Repr

/-- The decoded record of one FRAG packet: the fields of DS0 to DS3 and P0 to P3
(10_state.md R30; 30_encoding.md R85 to R91), under the spec's field names. -/
structure Frag where
  /-- DS0.TEX, primitive is textured. -/
  tex : Bool
  /-- DS0.TBL, texture-blended. -/
  tbl : Bool
  /-- DS0.DEPTH. -/
  depth : Depth
  /-- DS0.FLX, horizontal flip. -/
  flx : Bool
  /-- DS0.FLY, vertical flip. -/
  fly : Bool
  /-- DS0.DTH, dithering enabled. -/
  dth : Bool
  /-- DS0.STE, semi-transparency enabled. -/
  ste : Bool
  /-- DS0.BM. -/
  bm : BlendMode
  /-- DS1.WMX, window mask, x axis. -/
  wmx : BitVec 5
  /-- DS1.WMY. -/
  wmy : BitVec 5
  /-- DS1.WOX, window offset, x axis. -/
  wox : BitVec 5
  /-- DS1.WOY. -/
  woy : BitVec 5
  /-- DS2.TPX, texture page base column. -/
  tpx : BitVec 10
  /-- DS2.TPY, texture page base row. -/
  tpy : BitVec 9
  /-- DS3.CLX, palette base column. -/
  clx : BitVec 10
  /-- DS3.CLY, palette base row. -/
  cly : BitVec 9
  /-- P0.DX, destination column, two's complement. -/
  dx : BitVec 16
  /-- P0.DY, destination row, two's complement. -/
  dy : BitVec 16
  /-- P1, texture coordinate U, two's complement with TC_FRAC fraction bits. -/
  u : BitVec 32
  /-- P2, texture coordinate V. -/
  v : BitVec 32
  /-- P3.SR, shaded red. -/
  sr : BitVec 8
  /-- P3.SG, shaded green. -/
  sg : BitVec 8
  /-- P3.SB, shaded blue. -/
  sb : BitVec 8
deriving DecidableEq, Repr

/-- The reserved fields of a FRAG packet (30_encoding.md R94). They are operands of the command, since
FRAG itself checks them (40_fragment_pipeline_datapath.md R121), but no part of the record. -/
structure FragReserved where
  /-- DS0[31:10]. -/
  ds0 : BitVec 22
  /-- DS1[31:20]. -/
  ds1 : BitVec 12
  /-- DS2[15:10]. -/
  ds2lo : BitVec 6
  /-- DS2[31:25]. -/
  ds2hi : BitVec 7
  /-- DS3[15:10]. -/
  ds3lo : BitVec 6
  /-- DS3[31:25]. -/
  ds3hi : BitVec 7
  /-- P3[31:24]. -/
  p3 : BitVec 8
deriving DecidableEq, Repr

/-- Every reserved field zero: what a legal FRAG holds (R94). -/
def FragReserved.clear : FragReserved := ⟨0, 0, 0, 0, 0, 0, 0⟩

/-- The record whose every field is zero (a FRAG packet of eight zero words after its header). -/
def Frag.zero : Frag where
  tex := false
  tbl := false
  depth := .bpp4
  flx := false
  fly := false
  dth := false
  ste := false
  bm := .avg
  wmx := 0
  wmy := 0
  wox := 0
  woy := 0
  tpx := 0
  tpy := 0
  clx := 0
  cly := 0
  dx := 0
  dy := 0
  u := 0
  v := 0
  sr := 0
  sg := 0
  sb := 0

/-- The instructions: one constructor per row of spec/opcode_table.json. -/
inductive Instr where
  /-- FRAG (40_fragment_pipeline_datapath.md R121): the record and the reserved fields of its packet. -/
  | frag (f : Frag) (res : FragReserved)
  /-- BARRIER (R122). -/
  | barrier
  /-- SET_XFORM (R127): the six halves of its three payload words (30_encoding.md R92). -/
  | setXform (ox oy ax ay aw ah : BitVec 16)
  /-- VTX_MAP (R128): the vertex position (30_encoding.md R93). -/
  | vtxMap (px py : BitVec 16)
  /-- TEX_NONE (41_texture_palette_decoder.md R151). -/
  | texNone
  /-- TEX_4BPP (R160). -/
  | tex4bpp
  /-- TEX_8BPP (R161). -/
  | tex8bpp
  /-- TEX_15BPP (R162). -/
  | tex15bpp
  /-- TEX_RSVD (R163). -/
  | texRsvd
  /-- MOD_RAW (R167). -/
  | modRaw
  /-- MOD_BLEND (R168). -/
  | modBlend
  /-- DITHER_OFF (42_dither_spatial_perturber.md R192). -/
  | ditherOff
  /-- DITHER_ON (R193). -/
  | ditherOn
  /-- BLEND_NONE (43_blend_compositor.md R203). -/
  | blendNone
  /-- BLEND_AVG (R204). -/
  | blendAvg
  /-- BLEND_ADD (R205). -/
  | blendAdd
  /-- BLEND_SUB (R206). -/
  | blendSub
  /-- BLEND_QADD (R207). -/
  | blendQadd
  /-- OUT_FORMAT (44_pixel_output_formatter.md R232). -/
  | outFormat
deriving DecidableEq, Repr

/-- The stage selectors of DS0 (30_encoding.md R95), as a type of their own: what the datapath can be asked
to apply to the fragment it holds. -/
inductive StageOp where
  | texNone
  | tex4bpp
  | tex8bpp
  | tex15bpp
  | texRsvd
  | modRaw
  | modBlend
  | ditherOff
  | ditherOn
  | blendNone
  | blendAvg
  | blendAdd
  | blendSub
  | blendQadd
  | outFormat
deriving DecidableEq, Repr

/-- A stage selector as an instruction. -/
def StageOp.toInstr : StageOp → Instr
  | .texNone => .texNone
  | .tex4bpp => .tex4bpp
  | .tex8bpp => .tex8bpp
  | .tex15bpp => .tex15bpp
  | .texRsvd => .texRsvd
  | .modRaw => .modRaw
  | .modBlend => .modBlend
  | .ditherOff => .ditherOff
  | .ditherOn => .ditherOn
  | .blendNone => .blendNone
  | .blendAvg => .blendAvg
  | .blendAdd => .blendAdd
  | .blendSub => .blendSub
  | .blendQadd => .blendQadd
  | .outFormat => .outFormat

end Sys2Proof
end

