-- ==== Sys2Proof/WellFormed.lean ====
section
/-! DEFINITION. Which instructions the spec's encoding calls legal operands: the checks of 30_encoding.md R94
and 40_fragment_pipeline_datapath.md R127. An ill-formed command still decodes; it faults when it runs. -/

namespace Sys2Proof

/-- Every reserved field of a FRAG packet is zero (30_encoding.md R94). -/
def FragReserved.wellFormed (r : FragReserved) : Bool :=
  r.ds0 == 0 && r.ds1 == 0 && r.ds2lo == 0 && r.ds2hi == 0 && r.ds3lo == 0 && r.ds3hi == 0 && r.p3 == 0

/-- A FRAG's reserved fields are zero (R94); a SET_XFORM's width and height are not zero (R127); the other
packets use every bit, and every value is legal (R92, R93). -/
def Instr.wellFormed : Instr → Bool
  | .frag _ res => res.wellFormed
  | .setXform _ _ _ _ aw ah => aw != 0 && ah != 0
  | .barrier => true
  | .vtxMap _ _ => true
  | .texNone => true
  | .tex4bpp => true
  | .tex8bpp => true
  | .tex15bpp => true
  | .texRsvd => true
  | .modRaw => true
  | .modBlend => true
  | .ditherOff => true
  | .ditherOn => true
  | .blendNone => true
  | .blendAvg => true
  | .blendAdd => true
  | .blendSub => true
  | .blendQadd => true
  | .outFormat => true

end Sys2Proof
end

