-- ==== Sys2Proof/Decode.lean ====
section
/-! DEFINITION. From stream words to instructions and back (30_encoding.md): the command decoder, total on
every list of words and rejecting by name; the stage selectors of DS0; and the encoder. -/

namespace Sys2Proof

/-! ### Fields -/

/-- The four opcodes (30_encoding.md R82). -/
inductive Opcode where
  | frag
  | barrier
  | setXform
  | vtxMap
deriving DecidableEq, Repr

/-- The value of OPC (R82). -/
def Opcode.bits : Opcode → BitVec 4
  | .frag => 1
  | .barrier => 2
  | .setXform => 3
  | .vtxMap => 4

/-- Packet length in words, header included (R80). -/
def Opcode.words : Opcode → Nat
  | .frag => 9
  | .barrier => 1
  | .setXform => 4
  | .vtxMap => 2

/-- DEPTH of DS0 (R85). -/
def decodeDepth (b : BitVec 2) : Depth :=
  if b = 0 then .bpp4 else if b = 1 then .bpp8 else if b = 2 then .direct else .rsvd

/-- DEPTH of DS0 (R85). -/
def Depth.bits : Depth → BitVec 2
  | .bpp4 => 0
  | .bpp8 => 1
  | .direct => 2
  | .rsvd => 3

/-- BM of DS0 (R85). -/
def decodeBlendMode (b : BitVec 2) : BlendMode :=
  if b = 0 then .avg else if b = 1 then .add else if b = 2 then .sub else .qadd

/-- BM of DS0 (R85). -/
def BlendMode.bits : BlendMode → BitVec 2
  | .avg => 0
  | .add => 1
  | .sub => 2
  | .qadd => 3

/-- `w[i]` as a Boolean (00_scope.md R8). -/
def bitAt (w : Word) (i : Nat) : Bool := w.getLsbD i

/-- `w[lo+len-1:lo]` (R8). -/
def field (w : Word) (lo len : Nat) : BitVec len := w.extractLsb' lo len

/-! ### Commands -/

/-- The opcode a value of OPC names (R82); none for 0x0 and 0x5 to 0xF. -/
def decodeOpcode (opc : BitVec 4) : Option Opcode :=
  if opc = 1 then some .frag
  else if opc = 2 then some .barrier
  else if opc = 3 then some .setXform
  else if opc = 4 then some .vtxMap
  else none

/-- A header word: the opcode of a legal header, none for an illegal one (R81 to R83): bits 31:4 are zero
and OPC is one of the four. -/
def decodeHeader (h : Word) : Option Opcode :=
  if field h 4 28 = 0 then decodeOpcode (field h 0 4) else none

/-- The fields of a FRAG payload, reserved ones apart (R85 to R91). -/
def decodeFrag (ds0 ds1 ds2 ds3 p0 p1 p2 p3 : Word) : Frag where
  tex := bitAt ds0 0
  tbl := bitAt ds0 1
  depth := decodeDepth (field ds0 2 2)
  flx := bitAt ds0 4
  fly := bitAt ds0 5
  dth := bitAt ds0 6
  ste := bitAt ds0 7
  bm := decodeBlendMode (field ds0 8 2)
  wmx := field ds1 0 5
  wmy := field ds1 5 5
  wox := field ds1 10 5
  woy := field ds1 15 5
  tpx := field ds2 0 10
  tpy := field ds2 16 9
  clx := field ds3 0 10
  cly := field ds3 16 9
  dx := field p0 0 16
  dy := field p0 16 16
  u := p1
  v := p2
  sr := field p3 0 8
  sg := field p3 8 8
  sb := field p3 16 8

/-- The reserved fields of a FRAG payload (R94). -/
def decodeReserved (ds0 ds1 ds2 ds3 p3 : Word) : FragReserved where
  ds0 := field ds0 10 22
  ds1 := field ds1 20 12
  ds2lo := field ds2 10 6
  ds2hi := field ds2 25 7
  ds3lo := field ds3 10 6
  ds3hi := field ds3 25 7
  p3 := field p3 24 8

/-- The payload that follows a legal header: the instruction and the words after the packet; none where
fewer words remain than the packet has (R80, R98). -/
def decodePayload : Opcode → List Word → Option (Instr × List Word)
  | .frag, ds0 :: ds1 :: ds2 :: ds3 :: p0 :: p1 :: p2 :: p3 :: rest =>
    some (.frag (decodeFrag ds0 ds1 ds2 ds3 p0 p1 p2 p3) (decodeReserved ds0 ds1 ds2 ds3 p3), rest)
  | .frag, _ => none
  | .barrier, rest => some (.barrier, rest)
  | .setXform, w1 :: w2 :: w3 :: rest =>
    some (.setXform (field w1 0 16) (field w1 16 16) (field w2 0 16) (field w2 16 16)
      (field w3 0 16) (field w3 16 16), rest)
  | .setXform, _ => none
  | .vtxMap, w1 :: rest => some (.vtxMap (field w1 0 16) (field w1 16 16), rest)
  | .vtxMap, [] => none

/-- Why a stream gives no command. -/
inductive DecodeError where
  /-- No word remains: the stream ends between packets (R98; no fault). -/
  | endOfInput
  /-- The header is illegal (R83). -/
  | illegalHeader
  /-- A legal header, and fewer payload words than its packet has (R98). -/
  | truncated
deriving DecidableEq, Repr

/-- What the decoder answers: a command and the words after its packet, or the reason there is none. -/
inductive Decoded where
  | command (i : Instr) (rest : List Word)
  | error (e : DecodeError)
deriving DecidableEq, Repr

/-- Read one packet from the front of the stream, in the order of 40_fragment_pipeline_datapath.md R120:
header, then length, then payload. Total on every list of words. -/
def decode : List Word → Decoded
  | [] => .error .endOfInput
  | h :: rest =>
    match decodeHeader h with
    | none => .error .illegalHeader
    | some op =>
      match decodePayload op rest with
      | none => .error .truncated
      | some (i, rest') => .command i rest'

/-! ### Stage selectors -/

/-- One row of the selector table (R95): it applies to a DS0 with `DS0 AND mask = pattern`. -/
structure SelectorRow where
  op : StageOp
  pattern : Word
  mask : Word
deriving DecidableEq, Repr

/-- The selector table in the order of R95. -/
def selectorRows : List SelectorRow :=
  [⟨.texNone, 0x000, 0x001⟩, ⟨.tex4bpp, 0x001, 0x00D⟩, ⟨.tex8bpp, 0x005, 0x00D⟩,
   ⟨.tex15bpp, 0x009, 0x00D⟩, ⟨.texRsvd, 0x00D, 0x00D⟩] ++
  [⟨.modRaw, 0x001, 0x003⟩, ⟨.modBlend, 0x003, 0x003⟩] ++
  [⟨.ditherOff, 0x000, 0x040⟩, ⟨.ditherOn, 0x040, 0x040⟩] ++
  [⟨.blendNone, 0x000, 0x080⟩, ⟨.blendAvg, 0x080, 0x380⟩, ⟨.blendAdd, 0x180, 0x380⟩,
   ⟨.blendSub, 0x280, 0x380⟩, ⟨.blendQadd, 0x380, 0x380⟩] ++
  [⟨.outFormat, 0x000, 0x000⟩]

/-- A row applies to this DS0 (R95). -/
def SelectorRow.applies (r : SelectorRow) (ds0 : Word) : Bool := ds0 &&& r.mask == r.pattern

/-- Every selector that DS0 selects, in table order: one of each group, and one of the modulation group
only when TEX = 1 (R95). -/
def selectedOps (ds0 : Word) : List StageOp :=
  (selectorRows.filter (·.applies ds0)).map (·.op)

/-- The ONE selector the model answers for a DS0 read as a word of the opcode table: of the rows that
apply, the one whose match is the greatest number, the first of the table where several are equal. Several
rows share a word (R95), so no choice gives every row: DESIGN CHOICE, safe, notes/assumptions/10.md. -/
def leadingOp (ds0 : Word) : StageOp :=
  ((selectorRows.filter (·.applies ds0)).foldl
    (fun best r => if best.pattern.toNat < r.pattern.toNat then r else best)
    ⟨.texNone, 0x000, 0x001⟩).op

/-! ### The encoder -/

/-- DS0 from its fields (R85). -/
def encodeDs0 (f : Frag) (res : FragReserved) : Word :=
  res.ds0 ++ f.bm.bits ++ BitVec.ofBool f.ste ++ BitVec.ofBool f.dth ++ BitVec.ofBool f.fly ++
    BitVec.ofBool f.flx ++ f.depth.bits ++ BitVec.ofBool f.tbl ++ BitVec.ofBool f.tex

/-- DS1 from its fields (R86). -/
def encodeDs1 (f : Frag) (res : FragReserved) : Word :=
  res.ds1 ++ f.woy ++ f.wox ++ f.wmy ++ f.wmx

/-- DS2 from its fields (R87). -/
def encodeDs2 (f : Frag) (res : FragReserved) : Word :=
  res.ds2hi ++ f.tpy ++ res.ds2lo ++ f.tpx

/-- DS3 from its fields (R88). -/
def encodeDs3 (f : Frag) (res : FragReserved) : Word :=
  res.ds3hi ++ f.cly ++ res.ds3lo ++ f.clx

/-- P0 from its fields (R89). -/
def encodeP0 (f : Frag) : Word := f.dy ++ f.dx

/-- P3 from its fields (R91). -/
def encodeP3 (f : Frag) (res : FragReserved) : Word := res.p3 ++ f.sb ++ f.sg ++ f.sr

/-- The header of an opcode (R81). -/
def encodeHeader (op : Opcode) : Word := (0 : BitVec 28) ++ op.bits

/-- The match word of a stage selector (R95): the fields of DS0 that select it, every other bit zero. -/
def StageOp.ds0Word : StageOp → Word
  | .texNone => 0x000
  | .tex4bpp => 0x001
  | .tex8bpp => 0x005
  | .tex15bpp => 0x009
  | .texRsvd => 0x00D
  | .modRaw => 0x001
  | .modBlend => 0x003
  | .ditherOff => 0x000
  | .ditherOn => 0x040
  | .blendNone => 0x000
  | .blendAvg => 0x080
  | .blendAdd => 0x180
  | .blendSub => 0x280
  | .blendQadd => 0x380
  | .outFormat => 0x000

/-- The words of an instruction: a command's packet in stream order (R84, R92, R93); for a stage selector,
which is no packet, its one word of DS0 (R95). -/
def encode : Instr → List Word
  | .frag f res =>
    [encodeHeader .frag, encodeDs0 f res, encodeDs1 f res, encodeDs2 f res, encodeDs3 f res,
     encodeP0 f, f.u, f.v, encodeP3 f res]
  | .barrier => [encodeHeader .barrier]
  | .setXform ox oy ax ay aw ah => [encodeHeader .setXform, oy ++ ox, ay ++ ax, ah ++ aw]
  | .vtxMap px py => [encodeHeader .vtxMap, py ++ px]
  | .texNone => [StageOp.texNone.ds0Word]
  | .tex4bpp => [StageOp.tex4bpp.ds0Word]
  | .tex8bpp => [StageOp.tex8bpp.ds0Word]
  | .tex15bpp => [StageOp.tex15bpp.ds0Word]
  | .texRsvd => [StageOp.texRsvd.ds0Word]
  | .modRaw => [StageOp.modRaw.ds0Word]
  | .modBlend => [StageOp.modBlend.ds0Word]
  | .ditherOff => [StageOp.ditherOff.ds0Word]
  | .ditherOn => [StageOp.ditherOn.ds0Word]
  | .blendNone => [StageOp.blendNone.ds0Word]
  | .blendAvg => [StageOp.blendAvg.ds0Word]
  | .blendAdd => [StageOp.blendAdd.ds0Word]
  | .blendSub => [StageOp.blendSub.ds0Word]
  | .blendQadd => [StageOp.blendQadd.ds0Word]
  | .outFormat => [StageOp.outFormat.ds0Word]

/-- An instruction of the stream, that is a command (R80); the others are stage selectors. -/
def Instr.isCommand : Instr → Bool
  | .frag _ _ => true
  | .barrier => true
  | .setXform _ _ _ _ _ _ => true
  | .vtxMap _ _ => true
  | .texNone => false
  | .tex4bpp => false
  | .tex8bpp => false
  | .tex15bpp => false
  | .texRsvd => false
  | .modRaw => false
  | .modBlend => false
  | .ditherOff => false
  | .ditherOn => false
  | .blendNone => false
  | .blendAvg => false
  | .blendAdd => false
  | .blendSub => false
  | .blendQadd => false
  | .outFormat => false

/-! ### The opcode table's words -/

/-- Word k of a table word: bits 32k+31..32k, bit 0 the least significant of the first word. -/
def tableWord (w k : Nat) : Word := BitVec.ofNat 32 (w / 2 ^ (32 * k))

/-- The stream words of a table word: as many as the longest packet has, the bits above it zero. -/
def tableWords (w : Nat) : List Word :=
  [tableWord w 0, tableWord w 1, tableWord w 2, tableWord w 3, tableWord w 4, tableWord w 5,
   tableWord w 6, tableWord w 7, tableWord w 8]

/-- The stage selector a table word stands for. A command's row fixes all 32 bits of its header; a
selector's row is a part of DS0 and gives fewer than 32 bits, OUT_FORMAT's row none (R95 and
spec/opcode_table.json). DESIGN CHOICE, safe: notes/assumptions/10.md. -/
def tableStageOp (nbits w : Nat) : Option StageOp :=
  if nbits = 0 then some .outFormat
  else if nbits < 32 then some (leadingOp (tableWord w 0))
  else none

/-- The instruction the decoder reads from a table word of `nbits` bits. -/
def decodeTableWord (nbits w : Nat) : Option Instr :=
  match tableStageOp nbits w with
  | some op => some op.toInstr
  | none =>
    match decode (tableWords w) with
    | .command i _ => some i
    | .error _ => none

/-- The words of the one packet that a table word holds: the packet alone where its header is legal. -/
def tablePacket (w : Nat) : List Word :=
  match decodeHeader (tableWord w 0) with
  | some op => (tableWords w).take op.words
  | none => [tableWord w 0]

end Sys2Proof
end

