-- ==== Sys2Proof/Config.lean ====
section
/-! DEFINITION. What an implementation fixes (the named parameters of 00_scope.md R7, plain data that
State carries) and the free values: opaque constants with no body, of which nothing can be proved. -/

namespace Sys2Proof

/-- `STORE_BYTE_ORDER` of 00_scope.md R7 and 20_memory.md R54. -/
inductive ByteOrder where
  | little
  | big
deriving DecidableEq, Repr

/-- The named parameters of 00_scope.md R7, but for STORE_INIT (`Config.storeInit`).

`quantTies` stands for QUANT5. The laws Q1 to Q3 (44_pixel_output_formatter.md R230) leave free only the
31 exact ties 31·v = k + 1/2, k in 0..30, and each tie on its own; bit k of `quantTies` says that tie k
rounds up to k + 1. So the values of this field are exactly the functions R230 admits.
DEDUCED from R230, safe: notes/assumptions/4.md. -/
structure Params where
  /-- `TC_FRAC`, 0 to 16: fraction bits of the texture coordinates (R7, R90). -/
  tcFrac : Fin 17
  /-- `QUANT5`, by the direction of each exact tie (R7, R230). -/
  quantTies : BitVec 31
  /-- `SUBINDEX_AFTER_FLIP` (R7, 41_texture_palette_decoder.md R159). -/
  subindexAfterFlip : Bool
  /-- `STORE_BYTE_ORDER` (R7, R54). -/
  byteOrder : ByteOrder
deriving DecidableEq, Repr

/-- The defaults of 00_scope.md R7: TC_FRAC 4, QUANT5 v = floor(31·v + 1/2) (every tie up),
SUBINDEX_AFTER_FLIP false, little. -/
def Params.default : Params where
  tcFrac := 4
  quantTies := BitVec.allOnes 31
  subindexAfterFlip := false
  byteOrder := .little

/-- `STORE_INIT` (R7, 10_state.md R31, R36): what the store holds at launch, by cell. The spec gives no
default and says any value; so no body, and a cell that nothing has written reads as this free value.
Safe: notes/assumptions/3.md. -/
opaque Config.storeInit : Nat → Byte

/-- Which of several writers of one address wins (20_memory.md R62: any): a free value for each batch
(`draw`), each address (`cell`) and each list of the words that the writers leave there (`words`).
DESIGN CHOICE that it is applied to these three, safe: notes/assumptions/5.md. -/
opaque Config.raceWinner : (draw cell : Nat) → (words : List Pixel) → Nat

/-- What a word of the write sets holds after BATCH_HAZARD (40_fragment_pipeline_datapath.md R122: any
value): a free value for each batch and each address. Safe: notes/assumptions/6.md. -/
opaque Config.hazardWord : (draw cell : Nat) → Pixel

end Sys2Proof
end

