-- ==== Sys2Proof/Machine/State.lean ====
section
/-! DEFINITION. The state of the machine, every piece the spec gives it (10_state.md R20), as plain data;
the reasons a step can stop; and the machine after reset. -/

namespace Sys2Proof.Machine

/-- An address of the Pixel Store: a column 0..1023 and a row 0..511 (20_memory.md R50). -/
structure Addr where
  /-- Column. -/
  x : Fin 1024
  /-- Row. -/
  y : Fin 512
deriving DecidableEq, Repr

/-- The Pixel Store as the cells that hold a known byte, in one canonical form (`Memory.wf`): addresses
strictly rising and below 2^20. An unlisted cell holds no known byte and reads as the free value
`Config.storeInit`. Word (x, y) is cells 2i (bits 7:0) and 2i+1 (bits 15:8) for i = y·1024 + x, whatever
STORE_BYTE_ORDER is: the block has no byte address (20_memory.md R50, R54).
DESIGN CHOICE, safe: notes/assumptions/2.md and 3.md. -/
abbrev Memory := List Host.Cell

/-- What the texture stage hands on (41_texture_palette_decoder.md R150). -/
inductive Texel where
  /-- "untextured". -/
  | untextured
  /-- "fully transparent": the fragment is discarded. -/
  | transparent
  /-- The final 16-bit texel word. -/
  | word (w : Pixel)
deriving DecidableEq, Repr

/-- A fragment's outcome (00_scope.md R11, 40_fragment_pipeline_datapath.md R124). -/
inductive FragOutcome where
  /-- DISCARD: no store write. -/
  | discard
  /-- WRITE(a, v). -/
  | write (a : Addr) (v : Pixel)
deriving DecidableEq, Repr

/-- The values of one fragment's evaluation (R124), which a stage selector reads and writes. They are no
registers of the block (10_state.md R23, R29) and no command reads them.
DESIGN CHOICE, safe: notes/assumptions/9.md. -/
structure Datapath where
  /-- f. -/
  frag : Frag
  /-- s', the dithered shade. -/
  shade : Lanes Int
  /-- The texture stage's answer. -/
  texel : Texel
  /-- Fpre, before the clamp of 43_blend_compositor.md R201. -/
  front : Lanes Rat
  /-- C, the compositor's result. -/
  color : Lanes Rat
  /-- The outcome, once there is one. -/
  outcome : Option FragOutcome
deriving DecidableEq, Repr

/-- The machine's state. -/
structure State where
  /-- STATUS.FAULTED (10_state.md R24). -/
  faulted : Bool
  /-- STATUS.CODE (R24). STATUS.PEND follows `pending` and is not stored. -/
  code : BitVec 4
  /-- XFORM_OFFSET (R25). -/
  xformOffset : BitVec 32
  /-- XFORM_ORIGIN (R26). -/
  xformOrigin : BitVec 32
  /-- XFORM_SIZE (R27). -/
  xformSize : BitVec 32
  /-- PENDING (R30): a multiset, so the order of this list carries no meaning (notes/assumptions/11.md). -/
  pending : List Frag
  /-- The words of the command stream not yet consumed (30_encoding.md R80). -/
  stream : List Word
  /-- The command-stream position: how many words were consumed since reset (R22, R34). -/
  streamPos : Nat
  /-- The Pixel Store (R31). -/
  store : Memory
  /-- The values NDC_OUT has carried, in command order (40_fragment_pipeline_datapath.md R132). -/
  ndcOut : List (Rat × Rat)
  /-- The parameters (00_scope.md R7), which nothing changes. DESIGN CHOICE, safe: notes/assumptions/1.md. -/
  params : Params
  /-- The model's own: how many batches were closed, by which free values are drawn
  (notes/assumptions/5.md). -/
  draws : Nat
  /-- The model's own: the fragment evaluation a stage selector acts on (notes/assumptions/9.md). -/
  dp : Datapath
  /-- The model's own: the stage selector the next step applies, if any. No command writes it
  (notes/assumptions/9.md). -/
  stagePort : Option StageOp
deriving DecidableEq, Repr

/-- Why a step stops. -/
inductive Fault where
  /-- Raised by `step` of a block with STATUS.FAULTED = 1: it has no step
  (60_exceptions.md R258). Safe: the spec gives none. -/
  | halted
  /-- Raised by `step` where the stream is exhausted between packets: the block has no step and is idle
  (R265, R267); not an error of the run. Safe: the spec gives none. -/
  | endOfInput
deriving DecidableEq, Repr

/-- Why the model gives no meaning. -/
inductive Refusal where
  /-- Raised by an arm of `exec` that has no meaning yet; no arm does. Safe. -/
  | notModelled (mnemonic : String)
  /-- Raised by a host access to the store while PENDING is not empty, which has no meaning
  (20_memory.md R67, 93_implementation_defined.md I21). No instruction raises it. Safe. -/
  | hostAccessWhilePending
deriving DecidableEq, Repr

/-- No fragment under evaluation: DESIGN CHOICE of the model (notes/assumptions/9.md). -/
def Datapath.idle : Datapath where
  frag := Frag.zero
  shade := ⟨0, 0, 0⟩
  texel := .untextured
  front := ⟨0, 0, 0⟩
  color := ⟨0, 0, 0⟩
  outcome := none

/-- The machine right after power-on reset (10_state.md R34): STATUS 0, XFORM the reset transform
(offset 0, origin 0, size 1024 by 512), PENDING empty, the stream at its first word, the store at
STORE_INIT (no cell listed), the parameters at their defaults (00_scope.md R7). No stream is supplied yet:
notes/assumptions/16.md. -/
def State.reset : State where
  faulted := false
  code := 0
  xformOffset := 0x00000000
  xformOrigin := 0x00000000
  xformSize := 0x02000400
  pending := []
  stream := []
  streamPos := 0
  store := []
  ndcOut := []
  params := Params.default
  draws := 0
  dp := Datapath.idle
  stagePort := none

end Sys2Proof.Machine
end

