-- ==== Sys2Proof/Machine/Ops.lean ====
section
/-! DEFINITION. The shared operations: the Pixel Store, the registers and their fields, taking a fault, and
what the outside world does to the block (reset, launch, stream words). -/

namespace Sys2Proof.Machine

/-! ### The Pixel Store -/

/-- The canonical form: cell addresses strictly rising, all inside the 1024·512 words of two cells each. -/
abbrev Memory.wf (m : Memory) : Prop :=
  m.Pairwise (fun c d => c.1 < d.1) ∧ ∀ c ∈ m, c.1 < 2 ^ 20

/-- The byte a cell is known to hold, if any. -/
def Memory.known? : Memory → Nat → Option Byte
  | [], _ => none
  | (k, v) :: m, a => if k = a then some v else Memory.known? m a

/-- What a cell reads as: the byte it is known to hold, else the free value of STORE_INIT
(10_state.md R31, R36). -/
def Memory.readByte (m : Memory) (a : Nat) : Byte := (Memory.known? m a).getD (Config.storeInit a)

/-- Write one cell, keeping the canonical form. -/
def Memory.writeByte : Memory → Nat → Byte → Memory
  | [], a, v => [(a, v)]
  | (k, w) :: m, a, v =>
    if a < k then (a, v) :: (k, w) :: m
    else if a = k then (a, v) :: m
    else (k, w) :: Memory.writeByte m a v

/-- The linear index `y·1024 + x` (20_memory.md R52). -/
def Addr.index (a : Addr) : Nat := a.y.val * 1024 + a.x.val

/-- The cell that holds bits 7:0 of the word at an address; the next one holds bits 15:8. -/
def Addr.cell (a : Addr) : Nat := 2 * a.index

/-- `MemRead((x, y), 16)` (00_scope.md R11; 20_memory.md R55 to R57): one whole word, no side effect. -/
def Memory.readWord (m : Memory) (a : Addr) : Pixel := m.readByte (a.cell + 1) ++ m.readByte a.cell

/-- `MemWrite((x, y), 16, v)` (R11, R55 to R57): one whole word, nothing else. -/
def Memory.writeWord (m : Memory) (a : Addr) (v : Pixel) : Memory :=
  (m.writeByte a.cell (v.extractLsb' 0 8)).writeByte (a.cell + 1) (v.extractLsb' 8 8)

/-- Any column and row, reduced to a store address, each axis on its own (20_memory.md R51). -/
def wrapAddr (x y : Int) : Addr where
  x := ⟨(x % 1024).toNat, by omega⟩
  y := ⟨(y % 512).toNat, by omega⟩

/-! ### Registers and their fields -/

/-- OX of XFORM_OFFSET (10_state.md R25). -/
def State.ox (s : State) : BitVec 16 := field s.xformOffset 0 16

/-- OY of XFORM_OFFSET (R25). -/
def State.oy (s : State) : BitVec 16 := field s.xformOffset 16 16

/-- AX of XFORM_ORIGIN (R26). -/
def State.ax (s : State) : BitVec 16 := field s.xformOrigin 0 16

/-- AY of XFORM_ORIGIN (R26). -/
def State.ay (s : State) : BitVec 16 := field s.xformOrigin 16 16

/-- AW of XFORM_SIZE (R27). -/
def State.aw (s : State) : BitVec 16 := field s.xformSize 0 16

/-- AH of XFORM_SIZE (R27). -/
def State.ah (s : State) : BitVec 16 := field s.xformSize 16 16

/-- STATUS.PEND: PENDING holds at least one fragment (R24). -/
def State.pend (s : State) : Bool := !s.pending.isEmpty

/-- STATUS as the status port shows it (R24, 60_exceptions.md R263): FAULTED 31, reserved 30:9 reading 0,
PEND 8, reserved 7:4 reading 0, CODE 3:0. -/
def State.status (s : State) : BitVec 32 :=
  BitVec.ofBool s.faulted ++ (0 : BitVec 22) ++ BitVec.ofBool s.pend ++ (0 : BitVec 4) ++ s.code

/-- Load the three transform registers (R25 to R27). -/
def State.setXform (s : State) (offset origin size : BitVec 32) : State :=
  { s with xformOffset := offset, xformOrigin := origin, xformSize := size }

/-- Add a record to PENDING (R30). -/
def State.addPending (s : State) (f : Frag) : State := { s with pending := s.pending ++ [f] }

/-- Put a value on NDC_OUT (40_fragment_pipeline_datapath.md R132). -/
def State.emitNdc (s : State) (v : Rat × Rat) : State := { s with ndcOut := s.ndcOut ++ [v] }

/-- Close the current batch with the store it leaves: PENDING empties and PEND follows it (R122). A batch
with no fragment draws no free value. -/
def State.closeBatch (s : State) (store : Memory) : State :=
  { s with
    store := store
    pending := []
    draws := if s.pending.isEmpty then s.draws else s.draws + 1 }

/-- Replace the fragment evaluation the stages act on. -/
def State.withDp (s : State) (dp : Datapath) : State := { s with dp := dp }

/-! ### Taking a fault -/

/-- The fault causes (60_exceptions.md R251). -/
inductive FaultCode where
  | illegalCommand
  | malformedOperand
  | degenerateTransform
  | batchHazard
  | truncatedPacket
deriving DecidableEq, Repr

/-- The code STATUS.CODE holds (R251). -/
def FaultCode.bits : FaultCode → BitVec 4
  | .illegalCommand => 1
  | .malformedOperand => 2
  | .degenerateTransform => 3
  | .batchHazard => 4
  | .truncatedPacket => 5

/-- Fault entry (R258): STATUS.FAULTED and STATUS.CODE, and nothing else. There is no handler and no
return (R259): the block then has no step until `State.hardReset`. -/
def State.raise (s : State) (c : FaultCode) : State := { s with faulted := true, code := c.bits }

/-- BATCH_HAZARD's entry: besides R258's, the words of the batch's write sets hold any value, which the
caller supplies (R122, R255); PENDING keeps its records. -/
def State.raiseHazard (s : State) (store : Memory) : State :=
  State.raise { s with store := store, draws := s.draws + 1 } .batchHazard

/-! ### The stream -/

/-- Take the words of one packet off the stream; `rest` is what remains (R120). -/
def State.consume (s : State) (n : Nat) (rest : List Word) : State :=
  { s with stream := rest, streamPos := s.streamPos + n }

/-- A stream that gives no command (R120): an illegal header and a truncated packet are faults taken after
the header word is consumed (DEDUCED, unobservable: notes/assumptions/8.md); an exhausted stream leaves the
block without a step. -/
def State.noCommand (s : State) : DecodeError → Host.Outcome State Fault Refusal
  | .endOfInput => .fault .endOfInput
  | .illegalHeader => .next ((s.consume 1 s.stream.tail).raise .illegalCommand)
  | .truncated => .next ((s.consume 1 s.stream.tail).raise .truncatedPacket)

/-- The issuer sends more words at the end of the stream (30_encoding.md R80; 60_exceptions.md R267). -/
def State.supply (s : State) (ws : List Word) : State := { s with stream := s.stream ++ ws }

/-! ### Reset and launch -/

/-- Reset of a running block (70_reset_and_hazards.md R280, R281; 10_state.md R34): STATUS, XFORM and
PENDING take their reset values, pending fragments are dropped unperformed, the stream starts afresh with
the words that follow the reset, and the store, the parameters and what NDC_OUT has carried are unchanged.
The model's own fields go back to idle, but for the draw counter (DEDUCED: notes/assumptions/12.md). -/
def State.hardReset (s : State) (stream : List Word) : State :=
  { State.reset with
    stream := stream
    store := s.store
    ndcOut := s.ndcOut
    params := s.params
    draws := s.draws }

/-- A launch: the reset machine with chosen parameters, known store words and a stream
(00_scope.md R7; 10_state.md R31). -/
def State.launch (params : Params) (store : Memory) (stream : List Word) : State :=
  { State.reset with params := params, store := store, stream := stream }

/-- A run has ended: the stream is exhausted between packets, no fault, PENDING empty (60_exceptions.md R265). -/
def State.runEnded (s : State) : Bool := s.stream.isEmpty && !s.faulted && s.pending.isEmpty

/-- Start the evaluation of one fragment: the record is there, and nothing is computed yet. -/
def Datapath.start (f : Frag) : Datapath := { Datapath.idle with frag := f }

/-- Put a fragment under evaluation (the model's own: notes/assumptions/9.md). -/
def State.loadFragment (s : State) (f : Frag) : State := s.withDp (Datapath.start f)

end Sys2Proof.Machine
end

