-- ==== Sys2Proof/Machine/Operands.lean ====
section
/-! DEFINITION. Operand forms: the destination, the shade, texture coordinates, the addresses a fragment
reads, and a store word as colour (41_texture_palette_decoder.md, 40_fragment_pipeline_datapath.md). -/

namespace Sys2Proof.Machine

/-- `Dest(f)` (40_fragment_pipeline_datapath.md R129). -/
def dest (f : Frag) : Addr := wrapAddr f.dx.toInt f.dy.toInt

/-- The shaded colour `s` = (SR, SG, SB), integers 0..255 (30_encoding.md R91, R124). -/
def shade (f : Frag) : Lanes Int := ⟨f.sr.toNat, f.sg.toNat, f.sb.toNat⟩

/-- `RoundTC` (41_texture_palette_decoder.md R152): to the nearest texel, halves toward plus infinity. -/
def roundTC (tcFrac : Nat) (u : Int) : Int :=
  if tcFrac = 0 then u else (u + 2 ^ (tcFrac - 1)) / 2 ^ tcFrac

/-- The wrap modulo 256 (R153). -/
def wrapTC (u : Int) : BitVec 8 := BitVec.ofInt 8 u

/-- `Window(c, m, o)` (R154). -/
def window (c : BitVec 8) (m o : BitVec 5) : BitVec 8 :=
  (c &&& ~~~(m.setWidth 8 <<< 3)) ||| ((o &&& m).setWidth 8 <<< 3)

/-- The folded horizontal coordinate `ux` (R150). -/
def coordX (p : Params) (f : Frag) : BitVec 8 :=
  window (wrapTC (roundTC p.tcFrac f.u.toInt)) f.wmx f.wox

/-- The folded vertical coordinate `vy` (R150). -/
def coordY (p : Params) (f : Frag) : BitVec 8 :=
  window (wrapTC (roundTC p.tcFrac f.v.toInt)) f.wmy f.woy

/-- `Divider(DEPTH)`: texels in one word (R155). -/
def divider : Depth → Nat
  | .bpp4 => 4
  | .bpp8 => 2
  | .direct => 1
  | .rsvd => 1

/-- `WordX(ux, D, FLX)` (R156). -/
def wordX (ux d : Nat) (flx : Bool) : Nat :=
  if flx then 255 / d - ux / d else ux / d

/-- The texture row `ty` (R157). -/
def texRow (vy : Nat) (fly : Bool) : Nat := if fly then 255 - vy else vy

/-- `TA(f)` (R158), for the depth mode of a texture-source operation. -/
def texAddr (p : Params) (f : Frag) (d : Depth) : Addr :=
  wrapAddr (f.tpx.toNat + wordX (coordX p f).toNat (divider d) f.flx)
    (f.tpy.toNat + texRow (coordY p f).toNat f.fly)

/-- `SubIndex(raw, ux, D, FLX)` (R159), under the parameter SUBINDEX_AFTER_FLIP. -/
def subIndex (afterFlip : Bool) (raw : Pixel) (ux d : Nat) (flx : Bool) : Nat :=
  let k := 16 / d
  let sx := if afterFlip && flx then 255 - ux else ux
  (raw.toNat >>> ((sx % d) * k)) &&& (2 ^ k - 1)

/-- The depth modes with a palette: 4-bit and 8-bit (R150). -/
def hasPalette : Depth → Bool
  | .bpp4 => true
  | .bpp8 => true
  | .direct => false
  | .rsvd => false

/-- The palette index of a fragment (R159). -/
def palIndex (p : Params) (m : Memory) (f : Frag) (d : Depth) : Nat :=
  subIndex p.subindexAfterFlip (m.readWord (texAddr p f d)) (coordX p f).toNat (divider d) f.flx

/-- `PA(f, S)` (R164). -/
def palAddr (p : Params) (m : Memory) (f : Frag) (d : Depth) : Addr :=
  wrapAddr (f.clx.toNat + palIndex p m f d) f.cly.toNat

/-- `TexelFetch(S, f)` in a depth mode: the final texel word (R150, R158 to R164). -/
def texelFetch (p : Params) (m : Memory) (f : Frag) (d : Depth) : Pixel :=
  if hasPalette d then m.readWord (palAddr p m f d) else m.readWord (texAddr p f d)

/-- The colour fields of a store word, 0..31 each (20_memory.md R53, R165). -/
def pixelLanes (w : Pixel) : Lanes Nat :=
  ⟨(w.extractLsb' 0 5).toNat, (w.extractLsb' 5 5).toNat, (w.extractLsb' 10 5).toNat⟩

/-- The colour of a store word, each lane field/31 (R53, R165). -/
def pixelColor (w : Pixel) : Lanes Rat := (pixelLanes w).map (fun t : Nat => (t : Rat) / 31)

/-- The colour of a dithered shade, each lane s'/255 (R124). -/
def shadeColor (s : Lanes Int) : Lanes Rat := s.map (fun c : Int => (c : Rat) / 255)

end Sys2Proof.Machine
end

