-- ==== Sys2Proof/Machine/Flags.lean ====
section
/-! DEFINITION. The block has no condition flags (10_state.md R23); these are the Booleans that live inside
one fragment's evaluation: fully transparent, the mask bit, semi-transparency requested. -/

namespace Sys2Proof.Machine

/-- "fully transparent": the final texel word is exactly zero (41_texture_palette_decoder.md R166). -/
def isTransparent (w : Pixel) : Bool := w == 0

/-- The mask bit of a store word (20_memory.md R53, R165). -/
def pixelMask (w : Pixel) : Bool := w.getLsbD 15

/-- What the texture stage hands on for a fetched word: the discard test (R166). -/
def Texel.ofWord (w : Pixel) : Texel := if isTransparent w then .transparent else .word w

/-- The mask bit of the output word (44_pixel_output_formatter.md R231): the final texel's, 0 for an
untextured fragment. A discarded fragment writes none. -/
def Texel.mask : Texel → Bool
  | .untextured => false
  | .transparent => false
  | .word w => pixelMask w

/-- The semi-transparency request (43_blend_compositor.md R200). A discarded fragment never reaches the
compositor and requests nothing. -/
def request (ste : Bool) : Texel → Bool
  | .untextured => ste
  | .transparent => false
  | .word w => ste && pixelMask w

end Sys2Proof.Machine
end

