-- ==== Sys2Proof/Machine/Blend.lean ====
section
/-! DEFINITION. blend_compositor (43_blend_compositor.md): BLEND_NONE, BLEND_AVG, BLEND_ADD, BLEND_SUB,
BLEND_QADD. -/

namespace Sys2Proof.Machine

/-- `clamp01(v) = min(1, max(0, v))` (00_scope.md R10). -/
def clamp01 (v : Rat) : Rat := min 1 (max 0 v)

/-- The front colour F: every lane of Fpre clamped (R201). -/
def frontColor (fpre : Lanes Rat) : Lanes Rat := fpre.map clamp01

/-- The equation of a blend mode on one lane, back `b` and front `f` (R204 to R207). -/
def blendLane : BlendMode → Rat → Rat → Rat
  | .avg, b, f => (b + f) / 2
  | .add, b, f => min 1 (b + f)
  | .sub, b, f => max 0 (b - f)
  | .qadd, b, f => min 1 (b + f / 4)

/-- `Compose(BM, B, F)`, lane by lane (R204 to R207). -/
def compose (bm : BlendMode) (back front : Lanes Rat) : Lanes Rat := back.zip (blendLane bm) front

/-- The back colour B: the destination word's colour, its mask bit unused (R202, R210). -/
def backColor (m : Memory) (dst : Addr) : Lanes Rat := pixelColor (m.readWord dst)

/-- The compositor: the equation where the request holds, else F (R124, R203). -/
def composite (m : Memory) (dst : Addr) (bm : BlendMode) (req : Bool) (fpre : Lanes Rat) : Lanes Rat :=
  if req then compose bm (backColor m dst) (frontColor fpre) else frontColor fpre

/-- Composite the fragment under evaluation. A discarded one never reaches the compositor (R200). -/
def Datapath.composite (dp : Datapath) (m : Memory) (bm : BlendMode) (req : Bool) : Datapath :=
  match dp.texel with
  | .transparent => dp
  | .untextured => { dp with color := Machine.composite m (dest dp.frag) bm req dp.front }
  | .word _ => { dp with color := Machine.composite m (dest dp.frag) bm req dp.front }

/-- The request of the fragment under evaluation (R200). -/
def Datapath.req (dp : Datapath) : Bool := request dp.frag.ste dp.texel

/-- BLEND_NONE (R203): C is F, whatever BM is. -/
def execBlendNone (s : State) : Host.Outcome State Fault Refusal :=
  .next (s.withDp (s.dp.composite s.store .avg false))

/-- BLEND_AVG (R204); what BLEND_NONE does where the request is false (30_encoding.md R95). -/
def execBlendAvg (s : State) : Host.Outcome State Fault Refusal :=
  .next (s.withDp (s.dp.composite s.store .avg s.dp.req))

/-- BLEND_ADD (R205); what BLEND_NONE does where the request is false (R95). -/
def execBlendAdd (s : State) : Host.Outcome State Fault Refusal :=
  .next (s.withDp (s.dp.composite s.store .add s.dp.req))

/-- BLEND_SUB (R206); what BLEND_NONE does where the request is false (R95). -/
def execBlendSub (s : State) : Host.Outcome State Fault Refusal :=
  .next (s.withDp (s.dp.composite s.store .sub s.dp.req))

/-- BLEND_QADD (R207); what BLEND_NONE does where the request is false (R95). -/
def execBlendQadd (s : State) : Host.Outcome State Fault Refusal :=
  .next (s.withDp (s.dp.composite s.store .qadd s.dp.req))

end Sys2Proof.Machine
end

