-- ==== Sys2Proof/Machine/Dither.lean ====
section
/-! DEFINITION. dither_spatial_perturber (42_dither_spatial_perturber.md): DITHER_OFF and DITHER_ON. -/

namespace Sys2Proof.Machine

/-- DITHER_ROM, rows of columns, in units of 1/255 (R190). -/
def ditherRom : Vector (Vector Int 4) 4 :=
  #v[#v[-4, 0, -3, 1],
     #v[2, -2, 3, -1],
     #v[-3, 1, -4, 0],
     #v[3, -1, 2, -2]]

/-- The offset of a destination: `DITHER_ROM[y mod 4][x mod 4]` (R191). -/
def ditherOffset (a : Addr) : Int := ditherRom[a.y.val % 4][a.x.val % 4]

/-- `Dither(s, dst, DTH)`: unchanged (R192), or the offset added to every lane, unclamped (R193, R195). -/
def dither (s : Lanes Int) (dst : Addr) (dth : Bool) : Lanes Int :=
  if dth then s.map (· + ditherOffset dst) else s

/-- DITHER_OFF (R192). -/
def execDitherOff (s : State) : Host.Outcome State Fault Refusal :=
  .next (s.withDp { s.dp with shade := dither (shade s.dp.frag) (dest s.dp.frag) false })

/-- DITHER_ON (R193). -/
def execDitherOn (s : State) : Host.Outcome State Fault Refusal :=
  .next (s.withDp { s.dp with shade := dither (shade s.dp.frag) (dest s.dp.frag) true })

end Sys2Proof.Machine
end

