-- ==== Sys2Proof/Machine/Output.lean ====
section
/-! DEFINITION. pixel_output_formatter (44_pixel_output_formatter.md): QUANT5 and OUT_FORMAT. -/

namespace Sys2Proof.Machine

/-- `QUANT5(v)` as an integer (R230): 31·v to the nearest integer; at an exact tie k + 1/2, up where bit k
of the parameter says so, else down. -/
def quant5Int (ties : BitVec 31) (v : Rat) : Int :=
  let n : Int := ⌊31 * v⌋
  let rem := 31 * v - n
  if rem < 1 / 2 then n
  else if 1 / 2 < rem then n + 1
  else if ties.getLsbD n.toNat then n + 1 else n

/-- `QUANT5(v)`, the 5-bit code of a channel in [0, 1] (R230). -/
def quant5 (ties : BitVec 31) (v : Rat) : BitVec 5 := BitVec.ofInt 5 (quant5Int ties v)

/-- `Format(C, m)` (R232): mask bit, blue, green, red, from the high end down (20_memory.md R53). -/
def formatPixel (p : Params) (c : Lanes Rat) (m : Bool) : Pixel :=
  BitVec.ofBool m ++ quant5 p.quantTies c.b ++ quant5 p.quantTies c.g ++ quant5 p.quantTies c.r

/-- Format the fragment under evaluation: its outcome. A discarded fragment stays discarded (R233). -/
def Datapath.format (dp : Datapath) (p : Params) : Datapath :=
  match dp.texel with
  | .transparent => dp
  | .untextured => { dp with outcome := some (.write (dest dp.frag) (formatPixel p dp.color false)) }
  | .word w => { dp with outcome := some (.write (dest dp.frag) (formatPixel p dp.color (pixelMask w))) }

/-- OUT_FORMAT (R232). -/
def execOutFormat (s : State) : Host.Outcome State Fault Refusal :=
  .next (s.withDp (s.dp.format s.params))

end Sys2Proof.Machine
end

