-- ==== Sys2Proof/Machine/Texture.lean ====
section
/-! DEFINITION. texture_palette_decoder (41_texture_palette_decoder.md): the texture sources TEX_NONE,
TEX_4BPP, TEX_8BPP, TEX_15BPP, TEX_RSVD and the modulations MOD_RAW, MOD_BLEND. -/

namespace Sys2Proof.Machine

/-- MOD_RAW's colour: the decoded texel, unmodulated (R167). -/
def modRawColor (w : Pixel) : Lanes Rat := pixelColor w

/-- MOD_BLEND's colour: `(tc/31)·2·(s'.c/255)` on each lane (R168). -/
def modBlendColor (w : Pixel) (s : Lanes Int) : Lanes Rat :=
  (pixelColor w).zip (fun t c => t * 2 * c) (shadeColor s)

/-- The texture stage with a fetched final word: discard it or hand it on (R166). -/
def Datapath.takeTexel (dp : Datapath) (w : Pixel) : Datapath :=
  if isTransparent w then { dp with texel := .transparent, outcome := some .discard }
  else { dp with texel := .word w }

/-- Fetch the fragment's texel in the depth mode of the selector (R150). R95 leaves open what a selector does
on a record whose own TEX and DEPTH do not select it: DESIGN CHOICE that it fetches in its own mode all the
same. Safe: notes/assumptions/15.md. -/
def Datapath.fetch (dp : Datapath) (p : Params) (m : Memory) (d : Depth) : Datapath :=
  dp.takeTexel (texelFetch p m dp.frag d)

/-- Set Fpre from the texel. Without a texel (an untextured or discarded fragment) there is no operand and
nothing changes (R95: the modulation group applies only when TEX = 1; R166; notes/assumptions/15.md). -/
def Datapath.modulate (dp : Datapath) (color : Pixel → Lanes Rat) : Datapath :=
  match dp.texel with
  | .untextured => dp
  | .transparent => dp
  | .word w => { dp with front := color w }

/-- TEX_NONE (R151): "untextured", and the dithered shade is the front colour (R124). -/
def execTexNone (s : State) : Host.Outcome State Fault Refusal :=
  .next (s.withDp { s.dp with texel := .untextured, front := shadeColor s.dp.shade })

/-- TEX_4BPP (R160). -/
def execTex4bpp (s : State) : Host.Outcome State Fault Refusal :=
  .next (s.withDp (s.dp.fetch s.params s.store .bpp4))

/-- TEX_8BPP (R161). -/
def execTex8bpp (s : State) : Host.Outcome State Fault Refusal :=
  .next (s.withDp (s.dp.fetch s.params s.store .bpp8))

/-- TEX_15BPP (R162). -/
def execTex15bpp (s : State) : Host.Outcome State Fault Refusal :=
  .next (s.withDp (s.dp.fetch s.params s.store .direct))

/-- TEX_RSVD (R163). -/
def execTexRsvd (s : State) : Host.Outcome State Fault Refusal :=
  .next (s.withDp (s.dp.fetch s.params s.store .rsvd))

/-- MOD_RAW (R167). -/
def execModRaw (s : State) : Host.Outcome State Fault Refusal :=
  .next (s.withDp (s.dp.modulate modRawColor))

/-- MOD_BLEND (R168). -/
def execModBlend (s : State) : Host.Outcome State Fault Refusal :=
  .next (s.withDp (s.dp.modulate (modBlendColor · s.dp.shade)))

end Sys2Proof.Machine
end

