-- ==== Sys2Proof/Machine/Fragment.lean ====
section
/-! DEFINITION. One fragment: the function that composes the four stages, and what the fragment reads and
writes (40_fragment_pipeline_datapath.md R124, R130). -/

namespace Sys2Proof.Machine

/-- The texel of a fragment against a store: "untextured", "fully transparent" or the final word
(41_texture_palette_decoder.md R150). -/
def texelOf (p : Params) (m : Memory) (f : Frag) : Texel :=
  if f.tex then Texel.ofWord (texelFetch p m f f.depth) else .untextured

/-- The outcome of a fragment whose front colour and mask bit are known: composite, format, write
(R124, from `F` on). -/
def finish (p : Params) (m : Memory) (f : Frag) (fpre : Lanes Rat) (req mask : Bool) : FragOutcome :=
  .write (dest f) (formatPixel p (composite m (dest f) f.bm req fpre) mask)

/-- `FragmentResult(S, f)` (R124). -/
def fragmentResult (p : Params) (m : Memory) (f : Frag) : FragOutcome :=
  let s' := dither (shade f) (dest f) f.dth
  match texelOf p m f with
  | .untextured => finish p m f (shadeColor s') f.ste false
  | .transparent => .discard
  | .word w =>
    finish p m f (if f.tbl then modBlendColor w s' else modRawColor w)
      (f.ste && pixelMask w) (pixelMask w)

/-- `Reads(f)` (R130): the texture word, the palette word in the palette modes, and the destination of a
fragment that is not discarded and requests blending. -/
def reads (p : Params) (m : Memory) (f : Frag) : List Addr :=
  (if f.tex then [texAddr p f f.depth] else []) ++
  (if f.tex && hasPalette f.depth then [palAddr p m f f.depth] else []) ++
  (if fragmentResult p m f ≠ .discard ∧ request f.ste (texelOf p m f) then [dest f] else [])

/-- `Writes(f)` (R130), each address with its word. -/
def writes (p : Params) (m : Memory) (f : Frag) : List (Addr × Pixel) :=
  match fragmentResult p m f with
  | .discard => []
  | .write a v => [(a, v)]

/-- The stage selectors a fragment's draw state selects, in the order of the stages
(30_encoding.md R95; R124, R125: dithering first). -/
def stageOps (f : Frag) : List StageOp :=
  [if f.dth then .ditherOn else .ditherOff] ++
  (if f.tex then
    [match f.depth with
     | .bpp4 => .tex4bpp
     | .bpp8 => .tex8bpp
     | .direct => .tex15bpp
     | .rsvd => .texRsvd,
     if f.tbl then .modBlend else .modRaw]
   else [.texNone]) ++
  [if f.ste then
    match f.bm with
    | .avg => .blendAvg
    | .add => .blendAdd
    | .sub => .blendSub
    | .qadd => .blendQadd
   else .blendNone] ++
  [.outFormat]

end Sys2Proof.Machine
end

