-- ==== Sys2Proof/Machine/Batch.lean ====
section
/-! DEFINITION. A batch: the hazard check and its performance against the store before it
(20_memory.md R60 to R62, R68; 40_fragment_pipeline_datapath.md R122, R123). -/

namespace Sys2Proof.Machine

/-- No word one of two fragments writes is a word the other reads (R61). -/
def noConflict (p : Params) (m : Memory) (f g : Frag) : Bool :=
  (writes p m f).all (fun w => !(reads p m g).contains w.1) &&
  (writes p m g).all (fun w => !(reads p m f).contains w.1)

/-- `HazardFree(batch)`: every two fragments of the batch agree (R61). Two records with equal fields are
two fragments, since PENDING is a multiset (R121; DEDUCED: notes/assumptions/11.md). -/
def hazardFree (p : Params) (m : Memory) : List Frag → Bool
  | [] => true
  | f :: fs => fs.all (noConflict p m f) && hazardFree p m fs

/-- Every write of a batch, each computed against the store before it (R123). -/
def batchWrites (p : Params) (m : Memory) (fs : List Frag) : List (Addr × Pixel) :=
  fs.flatMap (writes p m)

/-- The words the writers of an address would leave there. -/
def candidates (ws : List (Addr × Pixel)) (a : Addr) : List Pixel :=
  (ws.filter (·.1 = a)).map (·.2)

/-- The word left at an address several fragments may write (R62): where all agree, that word; else the
word of one of them, a free choice. R62 leaves open how the winner depends on the records: DESIGN CHOICE that
the free value is an index into the writers' words in the order of PENDING and is drawn anew for every list of
them, so that nothing relates the words left by two orders of the same records. Safe:
notes/assumptions/5.md. -/
def winner (draw : Nat) (a : Addr) : List Pixel → Pixel
  | [] => 0
  | v :: vs =>
    if vs.all (· == v) then v
    else (v :: vs).getD (Config.raceWinner draw a.cell (v :: vs) % (vs.length + 1)) v

/-- `PerformBatch(S0, P)` (R123): every address some fragment writes gets a writer's word. -/
def performBatch (draw : Nat) (p : Params) (m : Memory) (fs : List Frag) : Memory :=
  let ws := batchWrites p m fs
  ws.foldl (fun m' w => m'.writeWord w.1 (winner draw w.1 (candidates ws w.1))) m

/-- The store after BATCH_HAZARD (R122): any value, a free one, in every word of the write sets; every
other word unchanged (notes/assumptions/6.md). -/
def hazardStore (draw : Nat) (p : Params) (m : Memory) (fs : List Frag) : Memory :=
  (batchWrites p m fs).foldl (fun m' w => m'.writeWord w.1 (Config.hazardWord draw w.1.cell)) m

/-- R123 as a relation over every choice: `m'` is a store that performing the batch against `m` may
leave. Every address holds the word of one of its writers, or what it held. -/
def BatchMayLeave (p : Params) (m : Memory) (fs : List Frag) (m' : Memory) : Prop :=
  ∀ a, m'.readWord a ∈ candidates (batchWrites p m fs) a ∨
    candidates (batchWrites p m fs) a = [] ∧ m'.readWord a = m.readWord a

/-- Perform one fragment against the store as it stands now. -/
def performOne (p : Params) (m : Memory) (f : Frag) : Memory :=
  match fragmentResult p m f with
  | .discard => m
  | .write a v => m.writeWord a v

/-- Perform the fragments one after another, each against the store its predecessors left (R68). -/
def performInOrder (p : Params) (m : Memory) (fs : List Frag) : Memory := fs.foldl (performOne p) m

end Sys2Proof.Machine
end

