-- ==== Sys2Proof/Machine/Command.lean ====
section
/-! DEFINITION. The four commands (40_fragment_pipeline_datapath.md): FRAG, BARRIER, SET_XFORM, VTX_MAP. -/

namespace Sys2Proof.Machine

/-- A reserved field of a FRAG packet is not zero (30_encoding.md R94). -/
def reservedBitSet (r : FragReserved) : Bool :=
  r.ds0 != 0 || r.ds1 != 0 || r.ds2lo != 0 || r.ds2hi != 0 || r.ds3lo != 0 || r.ds3hi != 0 || r.p3 != 0

/-- FRAG (R121): a set reserved bit faults MALFORMED_OPERAND; else the record joins PENDING. The store is
not touched. -/
def execFrag (f : Frag) (res : FragReserved) (s : State) : Host.Outcome State Fault Refusal :=
  if reservedBitSet res then .next (s.raise .malformedOperand)
  else .next (s.addPending f)

/-- BARRIER (R122): a hazard in the batch faults BATCH_HAZARD; else the batch is performed and PENDING
empties. -/
def execBarrier (s : State) : Host.Outcome State Fault Refusal :=
  if hazardFree s.params s.store s.pending then
    .next (s.closeBatch (performBatch s.draws s.params s.store s.pending))
  else
    .next (s.raiseHazard (hazardStore s.draws s.params s.store s.pending))

/-- SET_XFORM (R127): a zero width or height faults DEGENERATE_TRANSFORM and writes nothing; else the three
registers take the three payload words. -/
def execSetXform (ox oy ax ay aw ah : BitVec 16) (s : State) : Host.Outcome State Fault Refusal :=
  if aw = 0 ∨ ah = 0 then .next (s.raise .degenerateTransform)
  else .next (s.setXform (oy ++ ox) (ay ++ ax) (ah ++ aw))

/-- One axis of the normalised position (R128): exact, unclamped. The size is never 0 (10_state.md R27,
`State.Inv`); a state that holds a size of 0 is none a run reaches: notes/assumptions/13.md. -/
def ndcAxis (pos offset origin size : BitVec 16) : Rat :=
  ((pos.toInt + offset.toInt - origin.toInt : Int) : Rat) / (size.toNat : Rat) * 2 - 1

/-- VTX_MAP (R128): the normalised position goes to NDC_OUT. -/
def execVtxMap (px py : BitVec 16) (s : State) : Host.Outcome State Fault Refusal :=
  .next (s.emitNdc (ndcAxis px s.ox s.ax s.aw, ndcAxis py s.oy s.ay s.ah))

end Sys2Proof.Machine
end

