-- ==== Sys2Proof/Machine/Dispatch.lean ====
section
/-! DEFINITION. One arm per instruction. -/

namespace Sys2Proof.Machine

def exec (i : Instr) (s : State) : Host.Outcome State Fault Refusal :=
  match i with
  | .frag f res => Sys2Proof.Machine.execFrag f res s
  | .barrier => Sys2Proof.Machine.execBarrier s
  | .setXform ox oy ax ay aw ah => Sys2Proof.Machine.execSetXform ox oy ax ay aw ah s
  | .vtxMap px py => Sys2Proof.Machine.execVtxMap px py s
  | .texNone => Sys2Proof.Machine.execTexNone s
  | .tex4bpp => Sys2Proof.Machine.execTex4bpp s
  | .tex8bpp => Sys2Proof.Machine.execTex8bpp s
  | .tex15bpp => Sys2Proof.Machine.execTex15bpp s
  | .texRsvd => Sys2Proof.Machine.execTexRsvd s
  | .modRaw => Sys2Proof.Machine.execModRaw s
  | .modBlend => Sys2Proof.Machine.execModBlend s
  | .ditherOff => Sys2Proof.Machine.execDitherOff s
  | .ditherOn => Sys2Proof.Machine.execDitherOn s
  | .blendNone => Sys2Proof.Machine.execBlendNone s
  | .blendAvg => Sys2Proof.Machine.execBlendAvg s
  | .blendAdd => Sys2Proof.Machine.execBlendAdd s
  | .blendSub => Sys2Proof.Machine.execBlendSub s
  | .blendQadd => Sys2Proof.Machine.execBlendQadd s
  | .outFormat => Sys2Proof.Machine.execOutFormat s

end Sys2Proof.Machine
end

