-- ==== Sys2Proof/Machine/Step.lean ====
section
/-! DEFINITION. One step of the block (40_fragment_pipeline_datapath.md R120), and where the next
instruction is fetched from. -/

namespace Sys2Proof.Machine

/-- One step (R120): a faulted block has none; else the next packet of the stream is consumed and its
command runs. A stage selector waiting at the model's own stage port, which no command fills, runs first
(notes/assumptions/9.md). -/
def step (s : State) : Host.Outcome State Fault Refusal :=
  if s.faulted then .fault .halted
  else
    match s.stagePort with
    | some op => exec op.toInstr { s with stagePort := none }
    | none =>
      match decode s.stream with
      | .command i rest => exec i (s.consume (s.stream.length - rest.length) rest)
      | .error e => s.noCommand e

/-- Place one instruction of the opcode table where the next step fetches it: a command's packet at the
front of the stream; a stage selector at the stage port (notes/assumptions/10.md, 16.md). -/
def State.withFetchWord (s : State) (nbits w : Nat) : State :=
  match tableStageOp nbits w with
  | some op => { s with stagePort := some op }
  | none => { s with stream := tablePacket w ++ s.stream, stagePort := none }

end Sys2Proof.Machine
end

