-- ==== Sys2Proof/Machine/Stages.lean ====
section
/-! DEFINITION. Running stage selectors one after another, as instructions, on the fragment under
evaluation (the model's own view of 40_fragment_pipeline_datapath.md R124; notes/assumptions/9.md). -/

namespace Sys2Proof.Machine

/-- Run a list of stage selectors in order, stopping where one does not answer a next state. -/
def runStages : List StageOp → State → Host.Outcome State Fault Refusal
  | [], s => .next s
  | op :: ops, s =>
    match exec op.toInstr s with
    | .next s' => runStages ops s'
    | .fault r => .fault r
    | .refused r => .refused r

/-- Evaluate one fragment stage by stage: load it, and run the selectors of its draw state. -/
def evalByStages (f : Frag) (s : State) : Host.Outcome State Fault Refusal :=
  runStages (stageOps f) (s.loadFragment f)

end Sys2Proof.Machine
end

