-- ==== Sys2Proof/Machine/HostPort.lean ====
section
/-! DEFINITION. What a host does to the shared store and reads from the block (20_memory.md R52, R54, R67;
60_exceptions.md R263, R265): no instruction, so no arm of `exec`. -/

namespace Sys2Proof.Machine

/-- The address of a linear index `y·1024 + x` of the host's flat view (R52). The spec gives an array of
1024·512 words and leaves open what a larger index names: DESIGN CHOICE that there is none, by the type of the
index, and that R51's wrap, which is for addresses the block forms, is not applied to it. Safe:
notes/assumptions/17.md. -/
def addrOfIndex (i : Fin (1024 * 512)) : Addr where
  x := ⟨i.val % 1024, Nat.mod_lt _ (by decide)⟩
  y := ⟨i.val / 1024, Nat.div_lt_of_lt_mul i.isLt⟩

/-- A host reads one word: only while PENDING is empty (R67). -/
def hostReadWord (a : Addr) (s : State) : Except Refusal Pixel :=
  if s.pend then .error .hostAccessWhilePending else .ok (s.store.readWord a)

/-- A host writes one word: only while PENDING is empty (R67). -/
def hostWriteWord (a : Addr) (v : Pixel) (s : State) : Host.Outcome State Fault Refusal :=
  if s.pend then .refused .hostAccessWhilePending
  else .next { s with store := s.store.writeWord a v }

/-- Byte `k` of a word as a host sees it (R54): with little, byte 0 is bits 7:0; with big, bits 15:8. -/
def wordByte (o : ByteOrder) (w : Pixel) (k : Fin 2) : Byte :=
  match o with
  | .little => if k = 0 then w.extractLsb' 0 8 else w.extractLsb' 8 8
  | .big => if k = 0 then w.extractLsb' 8 8 else w.extractLsb' 0 8

/-- A word with byte `k` replaced, as a host sees it (R54). -/
def setWordByte (o : ByteOrder) (w : Pixel) (k : Fin 2) (v : Byte) : Pixel :=
  match o with
  | .little => if k = 0 then w.extractLsb' 8 8 ++ v else v ++ w.extractLsb' 0 8
  | .big => if k = 0 then v ++ w.extractLsb' 0 8 else w.extractLsb' 8 8 ++ v

/-- A host reads one byte of a word, under STORE_BYTE_ORDER (R54, R67). -/
def hostReadByte (a : Addr) (k : Fin 2) (s : State) : Except Refusal Byte :=
  if s.pend then .error .hostAccessWhilePending
  else .ok (wordByte s.params.byteOrder (s.store.readWord a) k)

/-- A host writes one byte of a word, under STORE_BYTE_ORDER (R54, R67). -/
def hostWriteByte (a : Addr) (k : Fin 2) (v : Byte) (s : State) : Host.Outcome State Fault Refusal :=
  hostWriteWord a (setWordByte s.params.byteOrder (s.store.readWord a) k v) s

/-- What a run is observed by, once it has ended: the store and the values of NDC_OUT
(60_exceptions.md R265). -/
def State.observation (s : State) : Option (Memory × List (Rat × Rat)) :=
  if s.runEnded then some (s.store, s.ndcOut) else none

end Sys2Proof.Machine
end

