-- ==== Sys2Proof/Safety.lean ====
section
/-! DEFINITION. What counts as a state a run can be in, as a safe run, and as a difference of two states
that a claim may ignore. -/

namespace Sys2Proof.Machine

/-- The invariant of the machine: the store is in its canonical form; XFORM_SIZE holds no zero field
(10_state.md R27); CODE is nonzero exactly when FAULTED is 1, and one of 0 to 5 (R24). -/
structure State.Inv (s : State) : Prop where
  store_wf : s.store.wf
  width_ne_zero : s.aw ≠ 0
  height_ne_zero : s.ah ≠ 0
  code_iff_faulted : s.code ≠ 0 ↔ s.faulted = true
  code_legal : s.code.toNat ≤ 5

/-- A run that has not gone wrong (60_exceptions.md R258, R265: a faulted state is never a final state). -/
def State.Safe (s : State) : Prop := s.faulted = false

/-- Two states that agree on everything but XFORM and what NDC_OUT has carried (10_state.md R28). -/
def State.AgreeButXform (s t : State) : Prop :=
  t = { s with
    xformOffset := t.xformOffset
    xformOrigin := t.xformOrigin
    xformSize := t.xformSize
    ndcOut := t.ndcOut }

/-- Two states that agree on everything but STATUS.FAULTED and STATUS.CODE (60_exceptions.md R258). -/
def State.AgreeButStatus (s t : State) : Prop :=
  t = { s with faulted := t.faulted, code := t.code }

/-- Two states that agree on everything but the fragment under evaluation. -/
def State.AgreeButDp (s t : State) : Prop := t = { s with dp := t.dp }

end Sys2Proof.Machine
end

