-- ==== Sys2Proof/Certificates/Slice0/Obligations.lean ====
section
/-! DEFINITION. The statements for the provers. Each docstring names the rule of spec/ it formalises. -/

open Sys2Proof Sys2Proof.Machine

/-! ### Encoding -/

/-- Decoding the packet of a command gives the command back, with every field at every value its encoding
admits, reserved fields included, whatever follows the packet (30_encoding.md sections 1 to 3). -/
def Obligations.DecodeOfEncodedCommandIsTheCommand : Prop :=
  ∀ (i : Instr) (rest : List Word), i.isCommand = true → decode (encode i ++ rest) = .command i rest

/-- Every packet the decoder accepts is the encoding of what it answers: no two packets of a command mean
the same, and every bit of a packet is read (30_encoding.md sections 1 to 3). -/
def Obligations.DecodedPacketIsTheEncodingOfItsCommand : Prop :=
  ∀ (ws : List Word) (i : Instr) (rest : List Word),
    decode ws = .command i rest → i.isCommand = true ∧ ws = encode i ++ rest

/-- Packets of 95_test_vectors.md, words as printed there (BARRIER, X-5, X-2, P5), decode to their fields. -/
def Obligations.PrintedPacketsDecodeToTheirFields : Prop :=
  decode [0x00000002] = .command .barrier [] ∧
  decode [0x00000003, 0xFFFB000A, 0x00320064, 0x006400C8] =
    .command (.setXform 10 (-5) 100 50 200 100) [] ∧
  decode [0x00000004, 0x007800A0] = .command (.vtxMap 160 120) [] ∧
  decode [0x00000001, 0x0000004B, 0, 0, 0, 0x00010005, 0x00000100, 0, 0x00808080] =
    .command
      (.frag
        { Frag.zero with
          tex := true, tbl := true, depth := .direct, dth := true
          dx := 5, dy := 1, u := 0x100, sr := 128, sg := 128, sb := 128 }
        FragReserved.clear) []

/-- Within a group exactly one row of the selector table applies to any DS0; of the modulation group one
when TEX = 1 and none when TEX = 0 (30_encoding.md R95). -/
def Obligations.EachGroupSelectsExactlyOneRow : Prop :=
  ∀ ds0 : Word,
    (selectedOps ds0).countP (· ∈ [.texNone, .tex4bpp, .tex8bpp, .tex15bpp, .texRsvd]) = 1 ∧
    (selectedOps ds0).countP (· ∈ [.modRaw, .modBlend]) = (if ds0.getLsbD 0 then 1 else 0) ∧
    (selectedOps ds0).countP (· ∈ [.ditherOff, .ditherOn]) = 1 ∧
    (selectedOps ds0).countP (· ∈ [.blendNone, .blendAvg, .blendAdd, .blendSub, .blendQadd]) = 1 ∧
    (selectedOps ds0).countP (· ∈ [.outFormat]) = 1

/-- The stages a fragment's fields select are the rows its DS0 word matches (30_encoding.md R85, R95). -/
def Obligations.StagesOfFieldsAreTheRowsOfDs0 : Prop :=
  ∀ (f : Frag) (res : FragReserved) (op : StageOp),
    op ∈ stageOps f ↔ op ∈ selectedOps (encodeDs0 f res)

/-! ### A step of the block -/

/-- A block that is not faulted runs the command its stream decodes to, the packet's words taken off the
stream (40_fragment_pipeline_datapath.md R120); a stage selector at the model's own stage port runs first
(the model's choice: notes/assumptions/9.md). -/
def Obligations.StepRunsTheDecodedInstruction : Prop :=
  ∀ s : State, s.faulted = false →
    (∀ i rest, s.stagePort = none → decode s.stream = .command i rest →
      step s = exec i
        { s with stream := rest, streamPos := s.streamPos + (encode i).length }) ∧
    (∀ op, s.stagePort = some op → step s = exec op.toInstr { s with stagePort := none })

/-- A header with OPC not in 1..4, or with a bit of 31:4 set, faults ILLEGAL_COMMAND, however many words
follow it, and changes nothing but STATUS and the stream (30_encoding.md R83, 60_exceptions.md R252). -/
def Obligations.IllegalHeaderFaultsIllegalCommand : Prop :=
  ∀ (s : State) (h : Word) (rest : List Word),
    s.faulted = false → s.stagePort = none → s.stream = h :: rest →
    (h.extractLsb' 0 4 ∉ [1, 2, 3, 4] ∨ h.extractLsb' 4 28 ≠ 0) →
    ∃ t, step s = .next t ∧
      t = { s with faulted := true, code := 1, stream := t.stream, streamPos := t.streamPos }

/-- A legal header with fewer payload words than its packet has faults TRUNCATED_PACKET, whatever those
words hold, and changes nothing but STATUS and the stream (60_exceptions.md R256). BARRIER, the fourth
header, has no payload word to lack. -/
def Obligations.ShortPacketFaultsTruncatedPacket : Prop :=
  ∀ (s : State) (h : Word) (rest : List Word) (n : Nat),
    s.faulted = false → s.stagePort = none → s.stream = h :: rest →
    (h, n) ∈ [((1 : Word), 9), (3, 4), (4, 2)] → rest.length < n - 1 →
    ∃ t, step s = .next t ∧
      t = { s with faulted := true, code := 5, stream := t.stream, streamPos := t.streamPos }

/-- A whole FRAG packet with a nonzero bit in any reserved field faults MALFORMED_OPERAND, and neither
PENDING nor anything else but STATUS and the stream changes (30_encoding.md R94, 60_exceptions.md R253). -/
def Obligations.ReservedBitOfFragPacketFaultsMalformedOperand : Prop :=
  ∀ (s : State) (ds0 ds1 ds2 ds3 p0 p1 p2 p3 : Word) (rest : List Word),
    s.faulted = false → s.stagePort = none →
    s.stream = 1 :: ds0 :: ds1 :: ds2 :: ds3 :: p0 :: p1 :: p2 :: p3 :: rest →
    (ds0.extractLsb' 10 22 ≠ 0 ∨ ds1.extractLsb' 20 12 ≠ 0 ∨
      ds2.extractLsb' 10 6 ≠ 0 ∨ ds2.extractLsb' 25 7 ≠ 0 ∨
      ds3.extractLsb' 10 6 ≠ 0 ∨ ds3.extractLsb' 25 7 ≠ 0 ∨ p3.extractLsb' 24 8 ≠ 0) →
    ∃ t, step s = .next t ∧
      t = { s with faulted := true, code := 2, stream := t.stream, streamPos := t.streamPos }

/-- A faulted block has no step; a block whose stream is exhausted between packets has none either
(R120; 60_exceptions.md R258, R259; how a missing step is answered is the model's choice:
notes/assumptions/7.md). -/
def Obligations.FaultedOrIdleBlockHasNoStep : Prop :=
  (∀ s : State, s.faulted = true → step s = .fault .halted) ∧
  (∀ s : State, s.faulted = false → s.stagePort = none → s.stream = [] → step s = .fault .endOfInput)

/-- STATUS shows CODE in 3:0, PEND in 8, FAULTED in 31, and reads 0 elsewhere; PEND is 1 exactly when
PENDING holds a fragment (10_state.md R24). -/
def Obligations.StatusShowsItsFields : Prop :=
  ∀ s : State,
    s.status.extractLsb' 0 4 = s.code ∧ s.status.extractLsb' 4 4 = 0 ∧
    (s.status.getLsbD 8 = true ↔ s.pending ≠ []) ∧ s.status.extractLsb' 9 22 = 0 ∧
    s.status.getLsbD 31 = s.faulted

/-! ### FRAG and BARRIER -/

/-- A FRAG with its reserved fields zero adds its record to PENDING, so that PEND reads 1, and touches
nothing else, the store least of all (40_fragment_pipeline_datapath.md R121). -/
def Obligations.LegalFragJoinsPending : Prop :=
  ∀ (f : Frag) (s : State),
    exec (.frag f FragReserved.clear) s = .next { s with pending := s.pending ++ [f] } ∧
    ∀ t, exec (.frag f FragReserved.clear) s = .next t → t.status.getLsbD 8 = true

/-- A BARRIER with a hazard-free batch performs it: every address some fragment writes, computed against
the store before, holds the word of one of its writers; every byte no fragment writes is as before;
PENDING is empty and PEND 0; nothing else of the spec's state changes (R122, R123; 20_memory.md R62). -/
def Obligations.BarrierPerformsTheHazardFreeBatch : Prop :=
  ∀ s : State, hazardFree s.params s.store s.pending = true →
    ∃ t, exec .barrier s = .next t ∧
      (∀ a, (∃ f ∈ s.pending, ∃ v, fragmentResult s.params s.store f = .write a v) →
        ∃ f ∈ s.pending, fragmentResult s.params s.store f = .write a (t.store.readWord a)) ∧
      (∀ c, (∀ f ∈ s.pending, ∀ a v, fragmentResult s.params s.store f = .write a v →
          c ≠ a.cell ∧ c ≠ a.cell + 1) →
        t.store.readByte c = s.store.readByte c) ∧
      t.status.getLsbD 8 = false ∧
      t = { s with store := t.store, pending := [], draws := t.draws }

/-- A BARRIER with a batch that is not hazard-free faults BATCH_HAZARD: PENDING keeps its records, every
byte outside the write sets is as before, and nothing else of the spec's state but STATUS changes; what the
write sets hold is free (R122; 60_exceptions.md R255, R258). -/
def Obligations.BarrierFaultsOnAHazard : Prop :=
  ∀ s : State, hazardFree s.params s.store s.pending = false →
    ∃ t, exec .barrier s = .next t ∧ t.faulted = true ∧ t.code = 4 ∧
      (∀ c, (∀ f ∈ s.pending, ∀ a v, fragmentResult s.params s.store f = .write a v →
          c ≠ a.cell ∧ c ≠ a.cell + 1) →
        t.store.readByte c = s.store.readByte c) ∧
      t = { s with faulted := true, code := 4, store := t.store, draws := t.draws }

/-- A BARRIER with an empty PENDING does nothing (R122). -/
def Obligations.BarrierOfAnEmptyBatchDoesNothing : Prop :=
  ∀ s : State, s.pending = [] → exec .barrier s = .next s

/-- A batch is hazard-free exactly when no address is both written by one of its fragments and read by a
different one (20_memory.md R61). That fragments are told apart by their place in the batch, so that two equal
records are two fragments, is the model's reading: notes/assumptions/11.md. -/
def Obligations.HazardFreeMeansNoWriteMeetsAnothersRead : Prop :=
  ∀ (p : Params) (m : Memory) (fs : List Frag),
    hazardFree p m fs = true ↔
      ∀ i j : Fin fs.length, i ≠ j → ∀ a v,
        fragmentResult p m fs[i] = .write a v → a ∉ reads p m fs[j]

/-- The order of PENDING's records carries no meaning: neither the hazard check nor what a batch may leave
depends on it (10_state.md R30, 20_memory.md R60). -/
def Obligations.OrderOfPendingCarriesNoMeaning : Prop :=
  ∀ (p : Params) (m : Memory) (fs gs : List Frag), fs.Perm gs →
    hazardFree p m fs = hazardFree p m gs ∧
    ∀ m', BatchMayLeave p m fs m' ↔ BatchMayLeave p m gs m'

/-- Performing the fragments of a hazard-free batch one after another, in any order, leaves exactly the
stores the batch may leave: each order gives one of them, and each of them is given by some order
(20_memory.md R68, an inference of the spec's own from R61 and R62). -/
def Obligations.SequentialOrdersLeaveWhatTheBatchMayLeave : Prop :=
  ∀ (p : Params) (m : Memory) (fs : List Frag), hazardFree p m fs = true →
    (∀ gs, gs.Perm fs → BatchMayLeave p m fs (performInOrder p m gs)) ∧
    (∀ m', BatchMayLeave p m fs m' →
      ∃ gs, gs.Perm fs ∧ ∀ a, (performInOrder p m gs).readWord a = m'.readWord a)

/-- What a fragment does depends only on the store words in `Reads(f)`: two stores that agree there give
the same outcome and the same read set (40_fragment_pipeline_datapath.md R130). -/
def Obligations.FragmentDependsOnlyOnWhatItReads : Prop :=
  ∀ (p : Params) (m m' : Memory) (f : Frag),
    (∀ a ∈ reads p m f, m'.readWord a = m.readWord a) →
    fragmentResult p m' f = fragmentResult p m f ∧ reads p m' f = reads p m f

/-! ### The transform -/

/-- A SET_XFORM with width and height not zero loads the three registers and nothing else
(40_fragment_pipeline_datapath.md R127; 10_state.md R25 to R27). -/
def Obligations.SetXformLoadsTheTransform : Prop :=
  ∀ (ox oy ax ay aw ah : BitVec 16) (s : State), aw ≠ 0 → ah ≠ 0 →
    ∃ t, exec (.setXform ox oy ax ay aw ah) s = .next t ∧
      t.ox = ox ∧ t.oy = oy ∧ t.ax = ax ∧ t.ay = ay ∧ t.aw = aw ∧ t.ah = ah ∧
      t = { s with
        xformOffset := t.xformOffset, xformOrigin := t.xformOrigin, xformSize := t.xformSize }

/-- A SET_XFORM with a zero width or height faults DEGENERATE_TRANSFORM and writes no register
(60_exceptions.md R254). -/
def Obligations.ZeroSizeFaultsDegenerateTransform : Prop :=
  ∀ (ox oy ax ay aw ah : BitVec 16) (s : State), (aw = 0 ∨ ah = 0) →
    exec (.setXform ox oy ax ay aw ah) s = .next { s with faulted := true, code := 3 }

/-- A whole SET_XFORM packet whose third payload word has no zero half loads its three payload words into
XFORM_OFFSET, XFORM_ORIGIN and XFORM_SIZE; one with a zero half faults and loads none (R127). -/
def Obligations.SetXformPacketLoadsItsPayloadWords : Prop :=
  ∀ (s : State) (w1 w2 w3 : Word) (rest : List Word),
    s.faulted = false → s.stagePort = none → s.stream = 3 :: w1 :: w2 :: w3 :: rest →
    ∃ t, step s = .next t ∧
      ((w3.extractLsb' 0 16 ≠ 0 ∧ w3.extractLsb' 16 16 ≠ 0 ∧
        t = { s with
          xformOffset := w1, xformOrigin := w2, xformSize := w3
          stream := t.stream, streamPos := t.streamPos }) ∨
       ((w3.extractLsb' 0 16 = 0 ∨ w3.extractLsb' 16 16 = 0) ∧
        t = { s with faulted := true, code := 3, stream := t.stream, streamPos := t.streamPos }))

/-- VTX_MAP emits the normalised position, in exact rationals, as the next value of NDC_OUT, and changes
nothing else (40_fragment_pipeline_datapath.md R128). -/
def Obligations.VtxMapEmitsTheNormalisedPosition : Prop :=
  ∀ (px py : BitVec 16) (s : State), s.aw ≠ 0 → s.ah ≠ 0 →
    exec (.vtxMap px py) s = .next { s with
      ndcOut := s.ndcOut ++
        [(((px.toInt : Rat) + s.ox.toInt - s.ax.toInt) / s.aw.toNat * 2 - 1,
          ((py.toInt : Rat) + s.oy.toInt - s.ay.toInt) / s.ah.toNat * 2 - 1)] }

/-- The drawing-area origin maps to -1, origin plus size to 1, and a position of the area into [-1, 1];
nothing outside is clamped to it (R128). -/
def Obligations.VtxMapFramesTheDrawingArea : Prop :=
  ∀ pos offset origin size : BitVec 16, size ≠ 0 →
    let d := pos.toInt + offset.toInt - origin.toInt
    (d = 0 → ndcAxis pos offset origin size = -1) ∧
    (d = size.toNat → ndcAxis pos offset origin size = 1) ∧
    (0 ≤ d ∧ d ≤ size.toNat ↔
      -1 ≤ ndcAxis pos offset origin size ∧ ndcAxis pos offset origin size ≤ 1)

/-! ### Texture

From here to "The whole fragment" the statements say what a stage selector does to the fragment under evaluation,
`State.dp`: the place where the model keeps the values that the spec's stages hand on (notes/assumptions/9.md).
They hold for every record. That a selector does its own operation on a record whose fields do not select it is the
model's choice (notes/assumptions/15.md, named below as "any record"). -/

/-- A folded coordinate is `floor(u + 1/2)` reduced modulo 256, with the bits of the window mask replaced by
those of the offset, on each axis (41_texture_palette_decoder.md R152 to R154; R153 is an inference of the
spec's own). -/
def Obligations.CoordinatesAreRoundedWrappedAndFolded : Prop :=
  ∀ (p : Params) (f : Frag),
    let u : Int := ⌊(f.u.toInt : Rat) / 2 ^ p.tcFrac.val + 1 / 2⌋
    let v : Int := ⌊(f.v.toInt : Rat) / 2 ^ p.tcFrac.val + 1 / 2⌋
    (coordX p f).toNat =
      ((u % 256).toNat &&& (255 - 8 * f.wmx.toNat)) ||| 8 * (f.wox.toNat &&& f.wmx.toNat) ∧
    (coordY p f).toNat =
      ((v % 256).toNat &&& (255 - 8 * f.wmy.toNat)) ||| 8 * (f.woy.toNat &&& f.wmy.toNat)

/-- Window folding is idempotent (R170, an inference of the spec's own from R154). -/
def Obligations.WindowFoldIsIdempotent : Prop :=
  ∀ (c : BitVec 8) (m o : BitVec 5), window (window c m o) m o = window c m o

/-- The flipped word column is the column that holds the mirrored texel `255 - ux`, for every divider
(R156). -/
def Obligations.FlippedColumnHoldsTheMirroredTexel : Prop :=
  ∀ (d : Depth) (ux : Nat), ux ≤ 255 → wordX ux (divider d) true = (255 - ux) / divider d

/-- TEX_NONE hands on "untextured", with the dithered shade over 255 as the front colour, and reads and
changes nothing else (R151; any record: notes/assumptions/15.md). -/
def Obligations.TexNoneTakesTheShadeAsFrontColour : Prop :=
  ∀ s : State,
    exec .texNone s = .next { s with
      dp := { s.dp with
        texel := .untextured
        front := ⟨(s.dp.shade.r : Rat) / 255, (s.dp.shade.g : Rat) / 255,
          (s.dp.shade.b : Rat) / 255⟩ } }

/-- TEX_4BPP and TEX_8BPP: the index is the 4 or 8 bits of the texture word at the texel's place within it,
and the final word is that entry of the palette row, columns wrapping; a final word of zero discards the
fragment (R157 to R161, R164, R166; any record: notes/assumptions/15.md). -/
def Obligations.PaletteTexelIsTheIndexedEntry : Prop :=
  ∀ s : State,
    let f := s.dp.frag
    let ux := (coordX s.params f).toNat
    let ty := if f.fly then 255 - (coordY s.params f).toNat else (coordY s.params f).toNat
    let sx := if s.params.subindexAfterFlip = true ∧ f.flx = true then 255 - ux else ux
    let taken := fun w : Pixel =>
      if w = 0 then { s.dp with texel := .transparent, outcome := some .discard }
      else { s.dp with texel := .word w }
    (let raw := s.store.readWord
        (wrapAddr (f.tpx.toNat + (if f.flx then 63 - ux / 4 else ux / 4) : Nat) (f.tpy.toNat + ty : Nat))
     let idx := (raw.extractLsb' (4 * (sx % 4)) 4).toNat
     exec .tex4bpp s = .next { s with
       dp := taken (s.store.readWord (wrapAddr (f.clx.toNat + idx : Nat) f.cly.toNat)) }) ∧
    (let raw := s.store.readWord
        (wrapAddr (f.tpx.toNat + (if f.flx then 127 - ux / 2 else ux / 2) : Nat) (f.tpy.toNat + ty : Nat))
     let idx := (raw.extractLsb' (8 * (sx % 2)) 8).toNat
     exec .tex8bpp s = .next { s with
       dp := taken (s.store.readWord (wrapAddr (f.clx.toNat + idx : Nat) f.cly.toNat)) })

/-- TEX_15BPP and TEX_RSVD: the final word is the texture word itself, one texel a word; a final word of
zero discards the fragment (R162, R163, R166; any record: notes/assumptions/15.md). -/
def Obligations.DirectTexelIsTheTextureWord : Prop :=
  ∀ s : State, ∀ i ∈ [Instr.tex15bpp, Instr.texRsvd],
    let f := s.dp.frag
    let ux := (coordX s.params f).toNat
    let ty := if f.fly then 255 - (coordY s.params f).toNat else (coordY s.params f).toNat
    let w := s.store.readWord
      (wrapAddr (f.tpx.toNat + (if f.flx then 255 - ux else ux) : Nat) (f.tpy.toNat + ty : Nat))
    exec i s = .next { s with
      dp := if w = 0 then { s.dp with texel := .transparent, outcome := some .discard }
        else { s.dp with texel := .word w } }

/-- MOD_RAW passes the decoded texel through, each channel its 5-bit field over 31 (R165, R167; any
record: notes/assumptions/15.md). -/
def Obligations.ModRawPassesTheTexelThrough : Prop :=
  ∀ (s : State) (w : Pixel), s.dp.texel = .word w →
    exec .modRaw s = .next { s with
      dp := { s.dp with
        front := ⟨((w.extractLsb' 0 5).toNat : Rat) / 31, ((w.extractLsb' 5 5).toNat : Rat) / 31,
          ((w.extractLsb' 10 5).toNat : Rat) / 31⟩ } }

/-- MOD_BLEND multiplies the decoded texel by twice the dithered shade, exactly and without a clamp
(R165, R168; any record: notes/assumptions/15.md). -/
def Obligations.ModBlendMultipliesByTwiceTheShade : Prop :=
  ∀ (s : State) (w : Pixel), s.dp.texel = .word w →
    exec .modBlend s = .next { s with
      dp := { s.dp with
        front :=
          ⟨((w.extractLsb' 0 5).toNat : Rat) / 31 * 2 * ((s.dp.shade.r : Rat) / 255),
           ((w.extractLsb' 5 5).toNat : Rat) / 31 * 2 * ((s.dp.shade.g : Rat) / 255),
           ((w.extractLsb' 10 5).toNat : Rat) / 31 * 2 * ((s.dp.shade.b : Rat) / 255)⟩ } }

/-- A fragment whose final texel word is zero is discarded: it writes nothing, and it reads its texture
word and, in the palette modes, its palette word, but not its destination (R166; R130, R233). -/
def Obligations.ZeroFinalWordDiscards : Prop :=
  ∀ (p : Params) (m : Memory) (f : Frag), f.tex = true → texelFetch p m f f.depth = 0 →
    fragmentResult p m f = .discard ∧ writes p m f = [] ∧ performOne p m f = m ∧
    reads p m f = texAddr p f f.depth ::
      (if f.depth = .bpp4 ∨ f.depth = .bpp8 then [palAddr p m f f.depth] else [])

/-! ### Dither -/

/-- DITHER_OFF leaves the shaded colour unchanged (42_dither_spatial_perturber.md R192; any record:
notes/assumptions/15.md). -/
def Obligations.DitherOffKeepsTheShade : Prop :=
  ∀ s : State,
    exec .ditherOff s = .next { s with
      dp := { s.dp with
        shade := ⟨s.dp.frag.sr.toNat, s.dp.frag.sg.toNat, s.dp.frag.sb.toNat⟩ } }

/-- DITHER_ON adds to every channel, unclamped, the entry of the table of R190 at row DY mod 4 and column
DX mod 4: the wrap to a store address does not change the cell (R190, R191, R193, R195; any record:
notes/assumptions/15.md). -/
def Obligations.DitherOnAddsTheTableEntry : Prop :=
  ∀ s : State,
    let f := s.dp.frag
    let table : List (List Int) := [[-4, 0, -3, 1], [2, -2, 3, -1], [-3, 1, -4, 0], [3, -1, 2, -2]]
    let d := (table.getD (f.dy.toInt % 4).toNat []).getD (f.dx.toInt % 4).toNat 0
    exec .ditherOn s = .next { s with
      dp := { s.dp with shade := ⟨f.sr.toNat + d, f.sg.toNat + d, f.sb.toNat + d⟩ } }

/-! ### Compositor -/

/-- BLEND_NONE: the result is the front colour, clamped to [0, 1] (43_blend_compositor.md R201, R203; any
record: notes/assumptions/15.md). -/
def Obligations.BlendNoneTakesTheFrontColour : Prop :=
  ∀ s : State, s.dp.texel ≠ .transparent →
    exec .blendNone s = .next { s with
      dp := { s.dp with
        color := ⟨min 1 (max 0 s.dp.front.r), min 1 (max 0 s.dp.front.g),
          min 1 (max 0 s.dp.front.b)⟩ } }

/-- The four equations, on each channel of the clamped front colour and of the destination word's colour,
where semi-transparency is requested: STE = 1, and the texel's mask bit 1 if there is a texel
(R200, R202, R204 to R207; any record: notes/assumptions/15.md). -/
def Obligations.RequestedBlendsComputeTheirEquations : Prop :=
  ∀ s : State, s.dp.frag.ste = true →
    (s.dp.texel = .untextured ∨ ∃ w : Pixel, s.dp.texel = .word w ∧ w.getLsbD 15 = true) →
    let bw := s.store.readWord (wrapAddr s.dp.frag.dx.toInt s.dp.frag.dy.toInt)
    let mix := fun eq : Rat → Rat → Rat =>
      { s with
        dp := { s.dp with
          color :=
            ⟨eq (((bw.extractLsb' 0 5).toNat : Rat) / 31) (min 1 (max 0 s.dp.front.r)),
             eq (((bw.extractLsb' 5 5).toNat : Rat) / 31) (min 1 (max 0 s.dp.front.g)),
             eq (((bw.extractLsb' 10 5).toNat : Rat) / 31) (min 1 (max 0 s.dp.front.b))⟩ } }
    exec .blendAvg s = .next (mix fun b f => (b + f) / 2) ∧
    exec .blendAdd s = .next (mix fun b f => min 1 (b + f)) ∧
    exec .blendSub s = .next (mix fun b f => max 0 (b - f)) ∧
    exec .blendQadd s = .next (mix fun b f => min 1 (b + f / 4))

/-- Where semi-transparency is not requested every compositing selector does what BLEND_NONE does
(30_encoding.md R95; R200, R203; any record: notes/assumptions/15.md). -/
def Obligations.UnrequestedBlendsDoWhatBlendNoneDoes : Prop :=
  ∀ s : State,
    (s.dp.texel = .untextured ∧ s.dp.frag.ste = false ∨
      ∃ w : Pixel, s.dp.texel = .word w ∧ (s.dp.frag.ste = false ∨ w.getLsbD 15 = false)) →
    ∀ i ∈ [Instr.blendAvg, .blendAdd, .blendSub, .blendQadd], exec i s = exec .blendNone s

/-- The compositor's result is in [0, 1] on every channel, in every mode, for any destination word, front
colour and request (R208). -/
def Obligations.CompositedChannelsStayInTheUnitInterval : Prop :=
  ∀ (m : Memory) (dst : Addr) (bm : BlendMode) (req : Bool) (fpre : Lanes Rat),
    let c := composite m dst bm req fpre
    (0 ≤ c.r ∧ c.r ≤ 1) ∧ (0 ≤ c.g ∧ c.g ≤ 1) ∧ (0 ≤ c.b ∧ c.b ≤ 1)

/-! ### Output -/

/-- QUANT5 under every tie choice meets Q1 to Q3 on [0, 1], and maps k/31 to k
(44_pixel_output_formatter.md R230). -/
def Obligations.QuantiserMeetsItsLaws : Prop :=
  ∀ (ties : BitVec 31) (v : Rat), 0 ≤ v → v ≤ 1 →
    |((quant5 ties v).toNat : Rat) - 31 * v| ≤ 1 / 2 ∧
    (∀ v', v ≤ v' → v' ≤ 1 → (quant5 ties v).toNat ≤ (quant5 ties v').toNat) ∧
    (∀ k : BitVec 5, quant5 ties ((k.toNat : Rat) / 31) = k)

/-- No quantiser is left out: every function that meets Q1 to Q3 on [0, 1] is the quantiser of some tie choice,
and every tie up is floor(31 v + 1/2) (R230; the tie bits are the model's form of QUANT5:
notes/assumptions/4.md). That every tie choice meets the laws is `QuantiserMeetsItsLaws`. -/
def Obligations.TieChoicesAreAllOfQuant5 : Prop :=
  (∀ q : Rat → Int,
    (∀ v, 0 ≤ v → v ≤ 1 → 0 ≤ q v ∧ q v ≤ 31 ∧ |(q v : Rat) - 31 * v| ≤ 1 / 2) →
    (∀ v v', 0 ≤ v → v ≤ v' → v' ≤ 1 → q v ≤ q v') →
    ∃ ties : BitVec 31, ∀ v, 0 ≤ v → v ≤ 1 → ((quant5 ties v).toNat : Int) = q v) ∧
  (∀ v : Rat, 0 ≤ v → v ≤ 1 →
    ((quant5 Params.default.quantTies v).toNat : Int) = ⌊31 * v + 1 / 2⌋)

/-- OUT_FORMAT of a fragment that is not discarded: the outcome writes, at the destination, the word whose
fields are the quantised channels, red lowest, and the mask bit of the texel, 0 where there is none
(R231, R232; 20_memory.md R53). -/
def Obligations.OutFormatPacksTheQuantisedColour : Prop :=
  ∀ s : State, s.dp.texel ≠ .transparent →
    ∃ v : Pixel,
      exec .outFormat s = .next { s with
        dp := { s.dp with
          outcome := some (.write (wrapAddr s.dp.frag.dx.toInt s.dp.frag.dy.toInt) v) } } ∧
      v.extractLsb' 0 5 = quant5 s.params.quantTies s.dp.color.r ∧
      v.extractLsb' 5 5 = quant5 s.params.quantTies s.dp.color.g ∧
      v.extractLsb' 10 5 = quant5 s.params.quantTies s.dp.color.b ∧
      (s.dp.texel = .untextured → v.getLsbD 15 = false) ∧
      (∀ w : Pixel, s.dp.texel = .word w → v.getLsbD 15 = w.getLsbD 15)

/-- Round trip: a raw-textured fragment that requests no blending writes exactly its final texel word, if
that is not zero, whatever the tie choice (R235, an inference of the spec's own). -/
def Obligations.RawUnblendedTexelIsWrittenUnchanged : Prop :=
  ∀ (p : Params) (m : Memory) (f : Frag), f.tex = true → f.tbl = false →
    texelFetch p m f f.depth ≠ 0 →
    (f.ste = false ∨ (texelFetch p m f f.depth).getLsbD 15 = false) →
    fragmentResult p m f = .write (dest f) (texelFetch p m f f.depth)

/-- A discarded fragment is left alone by every later stage (R166, R233; 43_blend_compositor.md R200; that a
stage run on it changes nothing is the model's choice: notes/assumptions/15.md). -/
def Obligations.LaterStagesLeaveADiscardedFragmentAlone : Prop :=
  ∀ s : State, s.dp.texel = .transparent →
    ∀ i ∈ [Instr.modRaw, .modBlend, .blendNone, .blendAvg, .blendAdd, .blendSub, .blendQadd, .outFormat],
      exec i s = .next s

/-! ### The whole fragment -/

/-- Running the stage selectors that a fragment's draw state selects, in stage order, each by its own
meaning, gives FragmentResult, and changes nothing but the fragment under evaluation
(40_fragment_pipeline_datapath.md R124, R125; 30_encoding.md R95; the stages as instructions are the model's
view: notes/assumptions/9.md). -/
def Obligations.SelectedStagesComputeFragmentResult : Prop :=
  ∀ (f : Frag) (s : State),
    ∃ t, evalByStages f s = .next t ∧
      t.dp.outcome = some (fragmentResult s.params s.store f) ∧ t = { s with dp := t.dp }

/-- The fields a FRAG does not use change nothing: texture fields of an untextured one, the palette base
of a direct one, the shade and DTH of a raw-textured one, BM of one that requests no blending
(30_encoding.md R96). -/
def Obligations.UnusedFieldsChangeNothing : Prop :=
  ∀ (p : Params) (m : Memory) (f g : Frag),
    (f.tex = false ∧
        g = { f with
          tbl := g.tbl, depth := g.depth, flx := g.flx, fly := g.fly
          wmx := g.wmx, wmy := g.wmy, wox := g.wox, woy := g.woy
          tpx := g.tpx, tpy := g.tpy, clx := g.clx, cly := g.cly, u := g.u, v := g.v } ∨
      f.tex = true ∧ (f.depth = .direct ∨ f.depth = .rsvd) ∧ g = { f with clx := g.clx, cly := g.cly } ∨
      f.tex = true ∧ f.tbl = false ∧
        g = { f with sr := g.sr, sg := g.sg, sb := g.sb, dth := g.dth } ∨
      request f.ste (texelOf p m f) = false ∧ g = { f with bm := g.bm }) →
    fragmentResult p m g = fragmentResult p m f ∧ reads p m g = reads p m f

/-! ### Rules of the whole machine -/

/-- The invariant holds right after reset (10_state.md R34; the store's form: notes/assumptions/2.md). -/
def Obligations.ResetStateMeetsTheInvariant : Prop := State.reset.Inv

/-- Every step keeps the invariant: the store in its canonical form, no zero field in XFORM_SIZE, CODE
nonzero exactly when FAULTED is 1 and never above 5 (10_state.md R24, R27; the store's form is the model's
choice: notes/assumptions/2.md). -/
def Obligations.StepKeepsTheInvariant : Prop :=
  ∀ s t : State, s.Inv → step s = .next t → t.Inv

/-- The store changes only in a step that reads a BARRIER header (R121, R122, R127, R128). -/
def Obligations.OnlyBarrierChangesTheStore : Prop :=
  ∀ s t : State, step s = .next t → (∃ c, t.store.readByte c ≠ s.store.readByte c) →
    ∃ rest, s.stream = 2 :: rest

/-- Only SET_XFORM writes XFORM: a step that changes one of its registers reads a SET_XFORM packet and
loads that packet's words (10_state.md R25 to R27). -/
def Obligations.OnlySetXformWritesXform : Prop :=
  ∀ s t : State, step s = .next t →
    (t.xformOffset ≠ s.xformOffset ∨ t.xformOrigin ≠ s.xformOrigin ∨ t.xformSize ≠ s.xformSize) →
    ∃ w1 w2 w3 rest, s.stream = 3 :: w1 :: w2 :: w3 :: rest ∧
      t.xformOffset = w1 ∧ t.xformOrigin = w2 ∧ t.xformSize = w3

/-- NDC_OUT carries one value per VTX_MAP, in command order: a step that reads a VTX_MAP packet emits one
value after those before it, and no other step emits or takes back any
(40_fragment_pipeline_datapath.md R132). -/
def Obligations.NdcOutCarriesOneValuePerVtxMap : Prop :=
  ∀ s t : State, step s = .next t →
    (s.stagePort = none ∧ (∃ w rest, s.stream = 4 :: w :: rest) ∧
      ∃ v, t.ndcOut = s.ndcOut ++ [v]) ∨
    (¬(s.stagePort = none ∧ ∃ w rest, s.stream = 4 :: w :: rest) ∧ t.ndcOut = s.ndcOut)

/-- Only a fault writes CODE and FAULTED: a step leaves both, or sets FAULTED with a code of 1 to 5
(10_state.md R24). -/
def Obligations.OnlyAFaultWritesCodeAndFaulted : Prop :=
  ∀ s t : State, step s = .next t →
    (t.faulted = s.faulted ∧ t.code = s.code) ∨
    (t.faulted = true ∧ t.code ∈ [(1 : BitVec 4), 2, 3, 4, 5])

/-- PENDING changes by a FRAG, which adds one record, or by a BARRIER, which empties it, and by nothing
else (10_state.md R30). -/
def Obligations.PendingGrowsByFragAndEmptiesByBarrier : Prop :=
  ∀ s t : State, step s = .next t → t.pending ≠ s.pending →
    ((∃ rest, s.stream = 1 :: rest) ∧ ∃ f, t.pending = s.pending ++ [f]) ∨
    ((∃ rest, s.stream = 2 :: rest) ∧ t.pending = [])

/-- XFORM reaches NDC_OUT and nothing else: two states that agree but for XFORM and what NDC_OUT has
carried take the same kind of step, to states that agree again (10_state.md R28, an inference of the spec's
own). -/
def Obligations.XformReachesNdcOutOnly : Prop :=
  ∀ s s' : State, s.AgreeButXform s' →
    (∀ t, step s = .next t → ∃ t', step s' = .next t' ∧ t.AgreeButXform t') ∧
    (∀ r, step s = .fault r → step s' = .fault r)

/-- A step changes no parameter, and leaves the model's own stage port empty: no command fills it
(00_scope.md R7; the model's choice: notes/assumptions/1.md and 9.md). -/
def Obligations.StepKeepsTheParameters : Prop :=
  ∀ s t : State, step s = .next t → t.params = s.params ∧ t.stagePort = none

/-- What reset leaves in the block's registers (10_state.md R34), and that the store then reads STORE_INIT
everywhere (R31; the free value of notes/assumptions/3.md). That NDC_OUT has carried nothing then is the
model's: R34 does not name it (notes/assumptions/12.md). -/
def Obligations.ResetLeavesTheResetValues : Prop :=
  State.reset.status = 0x00000000 ∧ State.reset.xformOffset = 0x00000000 ∧
  State.reset.xformOrigin = 0x00000000 ∧ State.reset.xformSize = 0x02000400 ∧
  State.reset.aw.toNat = 1024 ∧ State.reset.ah.toNat = 512 ∧ State.reset.pending = [] ∧
  State.reset.streamPos = 0 ∧ State.reset.ndcOut = [] ∧
  ∀ a, State.reset.store.readWord a = Config.storeInit (a.cell + 1) ++ Config.storeInit a.cell

/-- Reset of a block in any state clears STATUS, drops PENDING, gives XFORM its reset values and does not
write the store (70_reset_and_hazards.md R280). That the stream becomes the words that follow the reset, and that
NDC_OUT keeps what it has carried, is the model's reading of R280 and R281: notes/assumptions/12.md. -/
def Obligations.HardResetClearsTheBlockAndKeepsTheStore : Prop :=
  ∀ (s : State) (ws : List Word),
    let t := s.hardReset ws
    t.status = 0 ∧ t.xformOffset = 0 ∧ t.xformOrigin = 0 ∧ t.xformSize = 0x02000400 ∧
    t.pending = [] ∧ t.store = s.store ∧ t.ndcOut = s.ndcOut ∧ t.stream = ws ∧ t.streamPos = 0

/-! ### The host -/

/-- The host has no move on the store while PENDING is not empty; otherwise it reads the store's word, and a
word it writes is read back, every other word as before (20_memory.md R67; the refusal is the model's choice:
notes/assumptions/14.md). -/
def Obligations.HostTouchesTheStoreOnlyBetweenBatches : Prop :=
  ∀ (s : State) (a : Addr) (v : Pixel),
    (s.pending ≠ [] →
      hostReadWord a s = .error .hostAccessWhilePending ∧
      hostWriteWord a v s = .refused .hostAccessWhilePending) ∧
    (s.pending = [] →
      hostReadWord a s = .ok (s.store.readWord a) ∧
      ∃ t, hostWriteWord a v s = .next t ∧ hostReadWord a t = .ok v ∧
        (∀ b, b ≠ a → t.store.readWord b = s.store.readWord b) ∧ t = { s with store := t.store })

/-- A byte a host writes is read back, the word's other byte as before; with little byte 0 is bits 7:0,
with big bits 15:8 (20_memory.md R54). -/
def Obligations.HostBytesFollowTheByteOrder : Prop :=
  ∀ (s : State) (a : Addr) (k : Fin 2) (v : Byte), s.pending = [] →
    (∃ t, hostWriteByte a k v s = .next t ∧ hostReadByte a k t = .ok v ∧
      ∀ j, j ≠ k → hostReadByte a j t = hostReadByte a j s) ∧
    hostReadByte a 0 s = .ok
      (match s.params.byteOrder with
       | .little => (s.store.readWord a).extractLsb' 0 8
       | .big => (s.store.readWord a).extractLsb' 8 8)
end

