-- ==== Sys2Proof/Laws/Memory.lean ====
section
/-! SUPPORT. The Pixel Store: read after write, and the canonical form that every write keeps. -/

namespace Sys2Proof.Machine

@[simp] theorem known_writeByte_same (m : Memory) (a : Nat) (v : Byte) :
    Memory.known? (m.writeByte a v) a = some v := by
  induction m with
  | nil => simp [Memory.writeByte, Memory.known?]
  | cons c m ih =>
    obtain ⟨k, w⟩ := c
    unfold Memory.writeByte
    split
    · simp [Memory.known?]
    · split
      · simp [Memory.known?]
      · rename_i h₁ h₂
        have : k ≠ a := fun h => h₂ h.symm
        simp [Memory.known?, this, ih]

theorem known_writeByte_other (m : Memory) {a b : Nat} (v : Byte) (h : b ≠ a) :
    Memory.known? (m.writeByte a v) b = Memory.known? m b := by
  induction m with
  | nil => simp [Memory.writeByte, Memory.known?, h.symm]
  | cons c m ih =>
    obtain ⟨k, w⟩ := c
    unfold Memory.writeByte
    split
    · simp [Memory.known?, h.symm]
    · split
      · rename_i _ h₂
        subst h₂
        simp [Memory.known?, h.symm]
      · simp [Memory.known?, ih]

@[simp] theorem readByte_writeByte_same (m : Memory) (a : Nat) (v : Byte) :
    (m.writeByte a v).readByte a = v := by
  simp [Memory.readByte]

theorem readByte_writeByte_other (m : Memory) {a b : Nat} (v : Byte) (h : b ≠ a) :
    (m.writeByte a v).readByte b = m.readByte b := by
  simp [Memory.readByte, known_writeByte_other m v h]

theorem mem_writeByte (m : Memory) (a : Nat) (v : Byte) (c : Host.Cell) (h : c ∈ m.writeByte a v) :
    c.1 = a ∨ c ∈ m := by
  induction m with
  | nil =>
    simp only [Memory.writeByte, List.mem_singleton] at h
    simp [h]
  | cons d m ih =>
    obtain ⟨k, w⟩ := d
    unfold Memory.writeByte at h
    split at h
    · rcases List.mem_cons.1 h with h | h
      · simp [h]
      · exact .inr h
    · split at h
      · rcases List.mem_cons.1 h with h | h
        · simp [h]
        · exact .inr (List.mem_cons_of_mem _ h)
      · rcases List.mem_cons.1 h with h | h
        · simp [h]
        · rcases ih h with h | h
          · exact .inl h
          · exact .inr (List.mem_cons_of_mem _ h)

theorem writeByte_keeps_rising (m : Memory) (a : Nat) (v : Byte)
    (h : m.Pairwise (fun c d => c.1 < d.1)) : (m.writeByte a v).Pairwise (fun c d => c.1 < d.1) := by
  induction m with
  | nil => simp [Memory.writeByte]
  | cons c m ih =>
    obtain ⟨k, w⟩ := c
    have hm := List.pairwise_cons.1 h
    unfold Memory.writeByte
    split
    · rename_i hlt
      refine List.pairwise_cons.2 ⟨fun d hd => ?_, h⟩
      rcases List.mem_cons.1 hd with rfl | hd
      · exact hlt
      · exact Nat.lt_trans hlt (hm.1 d hd)
    · split
      · rename_i _ heq
        subst heq
        exact List.pairwise_cons.2 ⟨hm.1, hm.2⟩
      · rename_i h₁ h₂
        refine List.pairwise_cons.2 ⟨fun d hd => ?_, ih hm.2⟩
        rcases mem_writeByte m a v d hd with h | h
        · simp only [h]
          omega
        · exact hm.1 d h

/-- A write inside the store keeps the canonical form. -/
theorem writeByte_keeps_wf (m : Memory) (a : Nat) (v : Byte) (ha : a < 2 ^ 20) (h : m.wf) :
    (m.writeByte a v).wf := by
  refine ⟨writeByte_keeps_rising m a v h.1, fun c hc => ?_⟩
  rcases mem_writeByte m a v c hc with hc | hc
  · rw [hc]
    exact ha
  · exact h.2 c hc

/-- Both cells of an address lie inside the store. -/
theorem cell_lt (a : Addr) : a.cell + 1 < 2 ^ 20 := by
  have hx := a.x.isLt
  have hy := a.y.isLt
  simp only [Addr.cell, Addr.index]
  omega

/-- The linear index names one address (20_memory.md R52). -/
theorem index_injective {a b : Addr} (h : a.index = b.index) : a = b := by
  have hax := a.x.isLt
  have hbx := b.x.isLt
  simp only [Addr.index] at h
  obtain ⟨⟨ax, _⟩, ⟨ay, _⟩⟩ := a
  obtain ⟨⟨bx, _⟩, ⟨byy, _⟩⟩ := b
  simp only at h hax hbx
  simp only [Addr.mk.injEq, Fin.mk.injEq]
  omega

/-- The linear index of the address that an index of the host's flat view names is that index (R52). -/
@[simp] theorem index_addrOfIndex (i : Fin (1024 * 512)) : (addrOfIndex i).index = i.val :=
  Nat.div_add_mod' i.val 1024

theorem cell_injective {a b : Addr} (h : a.cell = b.cell) : a = b :=
  index_injective (by simp only [Addr.cell] at h; omega)

theorem append_halves (v : Pixel) : v.extractLsb' 8 8 ++ v.extractLsb' 0 8 = v := by
  ext i hi
  simp only [BitVec.getElem_append, BitVec.getElem_extractLsb']
  split
  · simp [BitVec.getLsbD_eq_getElem hi]
  · rename_i h
    have : 8 + (i - 8) = i := by omega
    simp [this, BitVec.getLsbD_eq_getElem hi]

/-- A write is read back (20_memory.md R57). -/
@[simp] theorem readWord_writeWord_same (m : Memory) (a : Addr) (v : Pixel) :
    (m.writeWord a v).readWord a = v := by
  have h : a.cell ≠ a.cell + 1 := by omega
  simp only [Memory.readWord, Memory.writeWord, readByte_writeByte_same,
    readByte_writeByte_other _ _ h, append_halves]

theorem readByte_writeWord_other (m : Memory) (a : Addr) (v : Pixel) {c : Nat}
    (h₀ : c ≠ a.cell) (h₁ : c ≠ a.cell + 1) : (m.writeWord a v).readByte c = m.readByte c := by
  simp only [Memory.writeWord, readByte_writeByte_other _ _ h₀, readByte_writeByte_other _ _ h₁]

/-- A write changes no other word (R57). -/
theorem readWord_writeWord_other (m : Memory) {a b : Addr} (v : Pixel) (h : b ≠ a) :
    (m.writeWord a v).readWord b = m.readWord b := by
  have hc : b.cell ≠ a.cell := fun e => h (cell_injective e)
  have h₁ : b.cell ≠ a.cell + 1 := by simp only [Addr.cell] at hc ⊢; omega
  have h₂ : b.cell + 1 ≠ a.cell := by simp only [Addr.cell] at hc ⊢; omega
  have h₃ : b.cell + 1 ≠ a.cell + 1 := by omega
  simp only [Memory.readWord, readByte_writeWord_other m a v hc h₁,
    readByte_writeWord_other m a v h₂ h₃]

/-- Writing a word keeps the canonical form. -/
theorem writeWord_keeps_wf (m : Memory) (a : Addr) (v : Pixel) (h : m.wf) : (m.writeWord a v).wf := by
  have hc := cell_lt a
  exact writeByte_keeps_wf _ _ _ hc (writeByte_keeps_wf _ _ _ (by omega) h)

/-- Writing a list of words, each word given by its address, keeps the canonical form. -/
theorem foldl_writeWord_keeps_wf {α : Type} (ws : List (Addr × α)) (v : Addr → Pixel) (m : Memory)
    (h : m.wf) : Memory.wf (ws.foldl (fun m' w => m'.writeWord w.1 (v w.1)) m) := by
  induction ws generalizing m with
  | nil => exact h
  | cons w ws ih => exact ih _ (writeWord_keeps_wf m w.1 (v w.1) h)

/-- What writing a list of words, each word given by its address, leaves at an address. -/
theorem readWord_foldl_writeWord {α : Type} (ws : List (Addr × α)) (v : Addr → Pixel) (m : Memory)
    (a : Addr) :
    Memory.readWord (ws.foldl (fun m' w => m'.writeWord w.1 (v w.1)) m) a =
      if a ∈ ws.map (·.1) then v a else m.readWord a := by
  induction ws generalizing m with
  | nil => simp
  | cons w ws ih =>
    rw [List.foldl_cons, ih]
    by_cases h : a = w.1
    · subst h
      simp
    · rw [readWord_writeWord_other m (v w.1) h]
      simp only [List.map_cons, List.mem_cons, h, false_or]

/-- Cells outside the written words are untouched. -/
theorem readByte_foldl_writeWord {α : Type} (ws : List (Addr × α)) (v : Addr → Pixel) (m : Memory)
    (c : Nat) (h : ∀ w ∈ ws, c ≠ w.1.cell ∧ c ≠ w.1.cell + 1) :
    Memory.readByte (ws.foldl (fun m' w => m'.writeWord w.1 (v w.1)) m) c = m.readByte c := by
  induction ws generalizing m with
  | nil => rfl
  | cons w ws ih =>
    have hw := h w (List.mem_cons_self ..)
    rw [List.foldl_cons, ih _ (fun x hx => h x (List.mem_cons_of_mem _ hx)),
      readByte_writeWord_other m w.1 _ hw.1 hw.2]

end Sys2Proof.Machine
end

