-- ==== Sys2Proof/Laws/Batch.lean ====
section
/-! SUPPORT. What performing a batch does to the store: the words it leaves, and the canonical form. -/

namespace Sys2Proof.Machine

/-- The winner among at least one candidate is one of them (20_memory.md R62). -/
theorem winner_mem (draw : Nat) (a : Addr) (vs : List Pixel) (h : vs ≠ []) : winner draw a vs ∈ vs := by
  match vs with
  | [] => exact absurd rfl h
  | v :: vs =>
    simp only [winner]
    split
    · exact List.mem_cons_self ..
    · have hlt : Config.raceWinner draw a.cell (v :: vs) % (vs.length + 1) < (v :: vs).length :=
        Nat.mod_lt _ (Nat.succ_pos _)
      rw [List.getD_eq_getElem _ _ hlt]
      exact List.getElem_mem hlt

/-- An address has a candidate exactly when some fragment writes it. -/
theorem candidates_ne_nil_iff (ws : List (Addr × Pixel)) (a : Addr) :
    candidates ws a ≠ [] ↔ a ∈ ws.map (·.1) := by
  simp only [candidates, ne_eq, List.map_eq_nil_iff, List.filter_eq_nil_iff, decide_eq_true_eq,
    not_forall, Decidable.not_not, List.mem_map]
  constructor
  · rintro ⟨w, hw, rfl⟩
    exact ⟨w, hw, rfl⟩
  · rintro ⟨w, hw, rfl⟩
    exact ⟨w, hw, rfl⟩

theorem mem_candidates (ws : List (Addr × Pixel)) (a : Addr) (v : Pixel) :
    v ∈ candidates ws a ↔ (a, v) ∈ ws := by
  simp only [candidates, List.mem_map, List.mem_filter, decide_eq_true_eq]
  constructor
  · rintro ⟨w, ⟨hw, rfl⟩, rfl⟩
    exact hw
  · intro h
    exact ⟨(a, v), ⟨h, rfl⟩, rfl⟩

/-- The word at an address after a batch is performed: a winner, or what was there. -/
theorem readWord_performBatch (draw : Nat) (p : Params) (m : Memory) (fs : List Frag) (a : Addr) :
    Memory.readWord (performBatch draw p m fs) a =
      if a ∈ (batchWrites p m fs).map (·.1) then
        winner draw a (candidates (batchWrites p m fs) a)
      else m.readWord a :=
  readWord_foldl_writeWord (batchWrites p m fs)
    (fun a => winner draw a (candidates (batchWrites p m fs) a)) m a

theorem performBatch_keeps_wf (draw : Nat) (p : Params) (m : Memory) (fs : List Frag) (h : m.wf) :
    Memory.wf (performBatch draw p m fs) :=
  foldl_writeWord_keeps_wf _ (fun a => winner draw a (candidates (batchWrites p m fs) a)) m h

theorem hazardStore_keeps_wf (draw : Nat) (p : Params) (m : Memory) (fs : List Frag) (h : m.wf) :
    Memory.wf (hazardStore draw p m fs) :=
  foldl_writeWord_keeps_wf _ (fun a => Config.hazardWord draw a.cell) m h

@[simp] theorem performBatch_nil (draw : Nat) (p : Params) (m : Memory) :
    performBatch draw p m [] = m := rfl

end Sys2Proof.Machine
end

