-- ==== Sys2Proof/Laws/Decode.lean ====
section
/-! SUPPORT. The decoder on each packet, said once: later proofs cite these lemmas and do not unfold it. -/

namespace Sys2Proof

@[simp] theorem decodeHeader_frag : decodeHeader 1#32 = some .frag := by decide
@[simp] theorem decodeHeader_barrier : decodeHeader 2#32 = some .barrier := by decide
@[simp] theorem decodeHeader_setXform : decodeHeader 3#32 = some .setXform := by decide
@[simp] theorem decodeHeader_vtxMap : decodeHeader 4#32 = some .vtxMap := by decide

@[simp] theorem decodeDepth_bits (d : Depth) : decodeDepth d.bits = d := by cases d <;> decide

@[simp] theorem decodeBlendMode_bits (m : BlendMode) : decodeBlendMode m.bits = m := by
  cases m <;> decide

@[simp] theorem bits_decodeDepth (b : BitVec 2) : (decodeDepth b).bits = b := by
  revert b
  decide

@[simp] theorem bits_decodeBlendMode (b : BitVec 2) : (decodeBlendMode b).bits = b := by
  revert b
  decide

@[simp] theorem decodeHeader_encodeHeader (op : Opcode) : decodeHeader (encodeHeader op) = some op := by
  cases op <;> decide

@[simp] theorem decode_nil : decode [] = .error .endOfInput := rfl

theorem decode_frag (ds0 ds1 ds2 ds3 p0 p1 p2 p3 : Word) (rest : List Word) :
    decode (1#32 :: ds0 :: ds1 :: ds2 :: ds3 :: p0 :: p1 :: p2 :: p3 :: rest) =
      .command (.frag (decodeFrag ds0 ds1 ds2 ds3 p0 p1 p2 p3)
        (decodeReserved ds0 ds1 ds2 ds3 p3)) rest := by
  rw [decode, decodeHeader_frag]
  rfl

theorem decode_barrier (rest : List Word) : decode (2#32 :: rest) = .command .barrier rest := by
  rw [decode, decodeHeader_barrier]
  rfl

theorem decode_setXform (w1 w2 w3 : Word) (rest : List Word) :
    decode (3#32 :: w1 :: w2 :: w3 :: rest) =
      .command (.setXform (field w1 0 16) (field w1 16 16) (field w2 0 16) (field w2 16 16)
        (field w3 0 16) (field w3 16 16)) rest := by
  rw [decode, decodeHeader_setXform]
  rfl

theorem decode_vtxMap (w1 : Word) (rest : List Word) :
    decode (4#32 :: w1 :: rest) = .command (.vtxMap (field w1 0 16) (field w1 16 16)) rest := by
  rw [decode, decodeHeader_vtxMap]
  rfl

/-- A stage selector's match word selects it (30_encoding.md R95). -/
theorem mem_selectedOps_ds0Word (op : StageOp) : op ∈ selectedOps op.ds0Word := by
  cases op <;> decide

end Sys2Proof
end

