-- ==== Sys2Proof/Laws/State.lean ====
section
/-! SUPPORT. What each named update of State does to each field, one lemma each, true by rfl. -/

namespace Sys2Proof.Machine

variable (s : State)

/-! ### `State.setXform` -/

@[simp] theorem State.faulted_setXform (o g z : BitVec 32) : (s.setXform o g z).faulted = s.faulted := rfl
@[simp] theorem State.code_setXform (o g z : BitVec 32) : (s.setXform o g z).code = s.code := rfl
@[simp] theorem State.xformOffset_setXform (o g z : BitVec 32) : (s.setXform o g z).xformOffset = o := rfl
@[simp] theorem State.xformOrigin_setXform (o g z : BitVec 32) : (s.setXform o g z).xformOrigin = g := rfl
@[simp] theorem State.xformSize_setXform (o g z : BitVec 32) : (s.setXform o g z).xformSize = z := rfl
@[simp] theorem State.pending_setXform (o g z : BitVec 32) : (s.setXform o g z).pending = s.pending := rfl
@[simp] theorem State.stream_setXform (o g z : BitVec 32) : (s.setXform o g z).stream = s.stream := rfl
@[simp] theorem State.streamPos_setXform (o g z : BitVec 32) : (s.setXform o g z).streamPos = s.streamPos := rfl
@[simp] theorem State.store_setXform (o g z : BitVec 32) : (s.setXform o g z).store = s.store := rfl
@[simp] theorem State.ndcOut_setXform (o g z : BitVec 32) : (s.setXform o g z).ndcOut = s.ndcOut := rfl
@[simp] theorem State.params_setXform (o g z : BitVec 32) : (s.setXform o g z).params = s.params := rfl
@[simp] theorem State.draws_setXform (o g z : BitVec 32) : (s.setXform o g z).draws = s.draws := rfl
@[simp] theorem State.dp_setXform (o g z : BitVec 32) : (s.setXform o g z).dp = s.dp := rfl
@[simp] theorem State.stagePort_setXform (o g z : BitVec 32) : (s.setXform o g z).stagePort = s.stagePort := rfl

/-! ### `State.addPending` -/

@[simp] theorem State.faulted_addPending (f : Frag) : (s.addPending f).faulted = s.faulted := rfl
@[simp] theorem State.code_addPending (f : Frag) : (s.addPending f).code = s.code := rfl
@[simp] theorem State.xformOffset_addPending (f : Frag) : (s.addPending f).xformOffset = s.xformOffset := rfl
@[simp] theorem State.xformOrigin_addPending (f : Frag) : (s.addPending f).xformOrigin = s.xformOrigin := rfl
@[simp] theorem State.xformSize_addPending (f : Frag) : (s.addPending f).xformSize = s.xformSize := rfl
@[simp] theorem State.pending_addPending (f : Frag) : (s.addPending f).pending = s.pending ++ [f] := rfl
@[simp] theorem State.stream_addPending (f : Frag) : (s.addPending f).stream = s.stream := rfl
@[simp] theorem State.streamPos_addPending (f : Frag) : (s.addPending f).streamPos = s.streamPos := rfl
@[simp] theorem State.store_addPending (f : Frag) : (s.addPending f).store = s.store := rfl
@[simp] theorem State.ndcOut_addPending (f : Frag) : (s.addPending f).ndcOut = s.ndcOut := rfl
@[simp] theorem State.params_addPending (f : Frag) : (s.addPending f).params = s.params := rfl
@[simp] theorem State.draws_addPending (f : Frag) : (s.addPending f).draws = s.draws := rfl
@[simp] theorem State.dp_addPending (f : Frag) : (s.addPending f).dp = s.dp := rfl
@[simp] theorem State.stagePort_addPending (f : Frag) : (s.addPending f).stagePort = s.stagePort := rfl

/-! ### `State.emitNdc` -/

@[simp] theorem State.faulted_emitNdc (v : Rat × Rat) : (s.emitNdc v).faulted = s.faulted := rfl
@[simp] theorem State.code_emitNdc (v : Rat × Rat) : (s.emitNdc v).code = s.code := rfl
@[simp] theorem State.xformOffset_emitNdc (v : Rat × Rat) : (s.emitNdc v).xformOffset = s.xformOffset := rfl
@[simp] theorem State.xformOrigin_emitNdc (v : Rat × Rat) : (s.emitNdc v).xformOrigin = s.xformOrigin := rfl
@[simp] theorem State.xformSize_emitNdc (v : Rat × Rat) : (s.emitNdc v).xformSize = s.xformSize := rfl
@[simp] theorem State.pending_emitNdc (v : Rat × Rat) : (s.emitNdc v).pending = s.pending := rfl
@[simp] theorem State.stream_emitNdc (v : Rat × Rat) : (s.emitNdc v).stream = s.stream := rfl
@[simp] theorem State.streamPos_emitNdc (v : Rat × Rat) : (s.emitNdc v).streamPos = s.streamPos := rfl
@[simp] theorem State.store_emitNdc (v : Rat × Rat) : (s.emitNdc v).store = s.store := rfl
@[simp] theorem State.ndcOut_emitNdc (v : Rat × Rat) : (s.emitNdc v).ndcOut = s.ndcOut ++ [v] := rfl
@[simp] theorem State.params_emitNdc (v : Rat × Rat) : (s.emitNdc v).params = s.params := rfl
@[simp] theorem State.draws_emitNdc (v : Rat × Rat) : (s.emitNdc v).draws = s.draws := rfl
@[simp] theorem State.dp_emitNdc (v : Rat × Rat) : (s.emitNdc v).dp = s.dp := rfl
@[simp] theorem State.stagePort_emitNdc (v : Rat × Rat) : (s.emitNdc v).stagePort = s.stagePort := rfl

/-! ### `State.closeBatch` -/

@[simp] theorem State.faulted_closeBatch (m : Memory) : (s.closeBatch m).faulted = s.faulted := rfl
@[simp] theorem State.code_closeBatch (m : Memory) : (s.closeBatch m).code = s.code := rfl
@[simp] theorem State.xformOffset_closeBatch (m : Memory) : (s.closeBatch m).xformOffset = s.xformOffset := rfl
@[simp] theorem State.xformOrigin_closeBatch (m : Memory) : (s.closeBatch m).xformOrigin = s.xformOrigin := rfl
@[simp] theorem State.xformSize_closeBatch (m : Memory) : (s.closeBatch m).xformSize = s.xformSize := rfl
@[simp] theorem State.pending_closeBatch (m : Memory) : (s.closeBatch m).pending = [] := rfl
@[simp] theorem State.stream_closeBatch (m : Memory) : (s.closeBatch m).stream = s.stream := rfl
@[simp] theorem State.streamPos_closeBatch (m : Memory) : (s.closeBatch m).streamPos = s.streamPos := rfl
@[simp] theorem State.store_closeBatch (m : Memory) : (s.closeBatch m).store = m := rfl
@[simp] theorem State.ndcOut_closeBatch (m : Memory) : (s.closeBatch m).ndcOut = s.ndcOut := rfl
@[simp] theorem State.params_closeBatch (m : Memory) : (s.closeBatch m).params = s.params := rfl
@[simp] theorem State.draws_closeBatch (m : Memory) : (s.closeBatch m).draws = if s.pending.isEmpty then s.draws else s.draws + 1 := rfl
@[simp] theorem State.dp_closeBatch (m : Memory) : (s.closeBatch m).dp = s.dp := rfl
@[simp] theorem State.stagePort_closeBatch (m : Memory) : (s.closeBatch m).stagePort = s.stagePort := rfl

/-! ### `State.withDp` -/

@[simp] theorem State.faulted_withDp (dp : Datapath) : (s.withDp dp).faulted = s.faulted := rfl
@[simp] theorem State.code_withDp (dp : Datapath) : (s.withDp dp).code = s.code := rfl
@[simp] theorem State.xformOffset_withDp (dp : Datapath) : (s.withDp dp).xformOffset = s.xformOffset := rfl
@[simp] theorem State.xformOrigin_withDp (dp : Datapath) : (s.withDp dp).xformOrigin = s.xformOrigin := rfl
@[simp] theorem State.xformSize_withDp (dp : Datapath) : (s.withDp dp).xformSize = s.xformSize := rfl
@[simp] theorem State.pending_withDp (dp : Datapath) : (s.withDp dp).pending = s.pending := rfl
@[simp] theorem State.stream_withDp (dp : Datapath) : (s.withDp dp).stream = s.stream := rfl
@[simp] theorem State.streamPos_withDp (dp : Datapath) : (s.withDp dp).streamPos = s.streamPos := rfl
@[simp] theorem State.store_withDp (dp : Datapath) : (s.withDp dp).store = s.store := rfl
@[simp] theorem State.ndcOut_withDp (dp : Datapath) : (s.withDp dp).ndcOut = s.ndcOut := rfl
@[simp] theorem State.params_withDp (dp : Datapath) : (s.withDp dp).params = s.params := rfl
@[simp] theorem State.draws_withDp (dp : Datapath) : (s.withDp dp).draws = s.draws := rfl
@[simp] theorem State.dp_withDp (dp : Datapath) : (s.withDp dp).dp = dp := rfl
@[simp] theorem State.stagePort_withDp (dp : Datapath) : (s.withDp dp).stagePort = s.stagePort := rfl

/-! ### `State.raise` -/

@[simp] theorem State.faulted_raise (c : FaultCode) : (s.raise c).faulted = true := rfl
@[simp] theorem State.code_raise (c : FaultCode) : (s.raise c).code = c.bits := rfl
@[simp] theorem State.xformOffset_raise (c : FaultCode) : (s.raise c).xformOffset = s.xformOffset := rfl
@[simp] theorem State.xformOrigin_raise (c : FaultCode) : (s.raise c).xformOrigin = s.xformOrigin := rfl
@[simp] theorem State.xformSize_raise (c : FaultCode) : (s.raise c).xformSize = s.xformSize := rfl
@[simp] theorem State.pending_raise (c : FaultCode) : (s.raise c).pending = s.pending := rfl
@[simp] theorem State.stream_raise (c : FaultCode) : (s.raise c).stream = s.stream := rfl
@[simp] theorem State.streamPos_raise (c : FaultCode) : (s.raise c).streamPos = s.streamPos := rfl
@[simp] theorem State.store_raise (c : FaultCode) : (s.raise c).store = s.store := rfl
@[simp] theorem State.ndcOut_raise (c : FaultCode) : (s.raise c).ndcOut = s.ndcOut := rfl
@[simp] theorem State.params_raise (c : FaultCode) : (s.raise c).params = s.params := rfl
@[simp] theorem State.draws_raise (c : FaultCode) : (s.raise c).draws = s.draws := rfl
@[simp] theorem State.dp_raise (c : FaultCode) : (s.raise c).dp = s.dp := rfl
@[simp] theorem State.stagePort_raise (c : FaultCode) : (s.raise c).stagePort = s.stagePort := rfl

/-! ### `State.raiseHazard` -/

@[simp] theorem State.faulted_raiseHazard (m : Memory) : (s.raiseHazard m).faulted = true := rfl
@[simp] theorem State.code_raiseHazard (m : Memory) : (s.raiseHazard m).code = 4 := rfl
@[simp] theorem State.xformOffset_raiseHazard (m : Memory) : (s.raiseHazard m).xformOffset = s.xformOffset := rfl
@[simp] theorem State.xformOrigin_raiseHazard (m : Memory) : (s.raiseHazard m).xformOrigin = s.xformOrigin := rfl
@[simp] theorem State.xformSize_raiseHazard (m : Memory) : (s.raiseHazard m).xformSize = s.xformSize := rfl
@[simp] theorem State.pending_raiseHazard (m : Memory) : (s.raiseHazard m).pending = s.pending := rfl
@[simp] theorem State.stream_raiseHazard (m : Memory) : (s.raiseHazard m).stream = s.stream := rfl
@[simp] theorem State.streamPos_raiseHazard (m : Memory) : (s.raiseHazard m).streamPos = s.streamPos := rfl
@[simp] theorem State.store_raiseHazard (m : Memory) : (s.raiseHazard m).store = m := rfl
@[simp] theorem State.ndcOut_raiseHazard (m : Memory) : (s.raiseHazard m).ndcOut = s.ndcOut := rfl
@[simp] theorem State.params_raiseHazard (m : Memory) : (s.raiseHazard m).params = s.params := rfl
@[simp] theorem State.draws_raiseHazard (m : Memory) : (s.raiseHazard m).draws = s.draws + 1 := rfl
@[simp] theorem State.dp_raiseHazard (m : Memory) : (s.raiseHazard m).dp = s.dp := rfl
@[simp] theorem State.stagePort_raiseHazard (m : Memory) : (s.raiseHazard m).stagePort = s.stagePort := rfl

/-! ### `State.consume` -/

@[simp] theorem State.faulted_consume (n : Nat) (rest : List Word) : (s.consume n rest).faulted = s.faulted := rfl
@[simp] theorem State.code_consume (n : Nat) (rest : List Word) : (s.consume n rest).code = s.code := rfl
@[simp] theorem State.xformOffset_consume (n : Nat) (rest : List Word) : (s.consume n rest).xformOffset = s.xformOffset := rfl
@[simp] theorem State.xformOrigin_consume (n : Nat) (rest : List Word) : (s.consume n rest).xformOrigin = s.xformOrigin := rfl
@[simp] theorem State.xformSize_consume (n : Nat) (rest : List Word) : (s.consume n rest).xformSize = s.xformSize := rfl
@[simp] theorem State.pending_consume (n : Nat) (rest : List Word) : (s.consume n rest).pending = s.pending := rfl
@[simp] theorem State.stream_consume (n : Nat) (rest : List Word) : (s.consume n rest).stream = rest := rfl
@[simp] theorem State.streamPos_consume (n : Nat) (rest : List Word) : (s.consume n rest).streamPos = s.streamPos + n := rfl
@[simp] theorem State.store_consume (n : Nat) (rest : List Word) : (s.consume n rest).store = s.store := rfl
@[simp] theorem State.ndcOut_consume (n : Nat) (rest : List Word) : (s.consume n rest).ndcOut = s.ndcOut := rfl
@[simp] theorem State.params_consume (n : Nat) (rest : List Word) : (s.consume n rest).params = s.params := rfl
@[simp] theorem State.draws_consume (n : Nat) (rest : List Word) : (s.consume n rest).draws = s.draws := rfl
@[simp] theorem State.dp_consume (n : Nat) (rest : List Word) : (s.consume n rest).dp = s.dp := rfl
@[simp] theorem State.stagePort_consume (n : Nat) (rest : List Word) : (s.consume n rest).stagePort = s.stagePort := rfl

/-! ### `State.supply` -/

@[simp] theorem State.faulted_supply (ws : List Word) : (s.supply ws).faulted = s.faulted := rfl
@[simp] theorem State.code_supply (ws : List Word) : (s.supply ws).code = s.code := rfl
@[simp] theorem State.xformOffset_supply (ws : List Word) : (s.supply ws).xformOffset = s.xformOffset := rfl
@[simp] theorem State.xformOrigin_supply (ws : List Word) : (s.supply ws).xformOrigin = s.xformOrigin := rfl
@[simp] theorem State.xformSize_supply (ws : List Word) : (s.supply ws).xformSize = s.xformSize := rfl
@[simp] theorem State.pending_supply (ws : List Word) : (s.supply ws).pending = s.pending := rfl
@[simp] theorem State.stream_supply (ws : List Word) : (s.supply ws).stream = s.stream ++ ws := rfl
@[simp] theorem State.streamPos_supply (ws : List Word) : (s.supply ws).streamPos = s.streamPos := rfl
@[simp] theorem State.store_supply (ws : List Word) : (s.supply ws).store = s.store := rfl
@[simp] theorem State.ndcOut_supply (ws : List Word) : (s.supply ws).ndcOut = s.ndcOut := rfl
@[simp] theorem State.params_supply (ws : List Word) : (s.supply ws).params = s.params := rfl
@[simp] theorem State.draws_supply (ws : List Word) : (s.supply ws).draws = s.draws := rfl
@[simp] theorem State.dp_supply (ws : List Word) : (s.supply ws).dp = s.dp := rfl
@[simp] theorem State.stagePort_supply (ws : List Word) : (s.supply ws).stagePort = s.stagePort := rfl

/-! ### `State.hardReset` -/

@[simp] theorem State.faulted_hardReset (ws : List Word) : (s.hardReset ws).faulted = false := rfl
@[simp] theorem State.code_hardReset (ws : List Word) : (s.hardReset ws).code = 0 := rfl
@[simp] theorem State.xformOffset_hardReset (ws : List Word) : (s.hardReset ws).xformOffset = 0 := rfl
@[simp] theorem State.xformOrigin_hardReset (ws : List Word) : (s.hardReset ws).xformOrigin = 0 := rfl
@[simp] theorem State.xformSize_hardReset (ws : List Word) : (s.hardReset ws).xformSize = 0x02000400 := rfl
@[simp] theorem State.pending_hardReset (ws : List Word) : (s.hardReset ws).pending = [] := rfl
@[simp] theorem State.stream_hardReset (ws : List Word) : (s.hardReset ws).stream = ws := rfl
@[simp] theorem State.streamPos_hardReset (ws : List Word) : (s.hardReset ws).streamPos = 0 := rfl
@[simp] theorem State.store_hardReset (ws : List Word) : (s.hardReset ws).store = s.store := rfl
@[simp] theorem State.ndcOut_hardReset (ws : List Word) : (s.hardReset ws).ndcOut = s.ndcOut := rfl
@[simp] theorem State.params_hardReset (ws : List Word) : (s.hardReset ws).params = s.params := rfl
@[simp] theorem State.draws_hardReset (ws : List Word) : (s.hardReset ws).draws = s.draws := rfl
@[simp] theorem State.dp_hardReset (ws : List Word) : (s.hardReset ws).dp = Datapath.idle := rfl
@[simp] theorem State.stagePort_hardReset (ws : List Word) : (s.hardReset ws).stagePort = none := rfl

/-! ### `State.loadFragment` -/

@[simp] theorem State.faulted_loadFragment (f : Frag) : (s.loadFragment f).faulted = s.faulted := rfl
@[simp] theorem State.code_loadFragment (f : Frag) : (s.loadFragment f).code = s.code := rfl
@[simp] theorem State.xformOffset_loadFragment (f : Frag) : (s.loadFragment f).xformOffset = s.xformOffset := rfl
@[simp] theorem State.xformOrigin_loadFragment (f : Frag) : (s.loadFragment f).xformOrigin = s.xformOrigin := rfl
@[simp] theorem State.xformSize_loadFragment (f : Frag) : (s.loadFragment f).xformSize = s.xformSize := rfl
@[simp] theorem State.pending_loadFragment (f : Frag) : (s.loadFragment f).pending = s.pending := rfl
@[simp] theorem State.stream_loadFragment (f : Frag) : (s.loadFragment f).stream = s.stream := rfl
@[simp] theorem State.streamPos_loadFragment (f : Frag) : (s.loadFragment f).streamPos = s.streamPos := rfl
@[simp] theorem State.store_loadFragment (f : Frag) : (s.loadFragment f).store = s.store := rfl
@[simp] theorem State.ndcOut_loadFragment (f : Frag) : (s.loadFragment f).ndcOut = s.ndcOut := rfl
@[simp] theorem State.params_loadFragment (f : Frag) : (s.loadFragment f).params = s.params := rfl
@[simp] theorem State.draws_loadFragment (f : Frag) : (s.loadFragment f).draws = s.draws := rfl
@[simp] theorem State.dp_loadFragment (f : Frag) : (s.loadFragment f).dp = Datapath.start f := rfl
@[simp] theorem State.stagePort_loadFragment (f : Frag) : (s.loadFragment f).stagePort = s.stagePort := rfl

end Sys2Proof.Machine
end

