-- ==== Sys2Proof/Laws/Exec.lean ====
section
/-! SUPPORT. What each meaning and a step can do, said once: later proofs cite these lemmas and do not unfold
the meanings. -/

namespace Sys2Proof.Machine

/-! ### Commands -/

/-- Everything FRAG can do. -/
theorem execFrag_cases (f : Frag) (res : FragReserved) (s : State) :
    (reservedBitSet res = false ∧ exec (.frag f res) s = .next (s.addPending f)) ∨
    (reservedBitSet res = true ∧ exec (.frag f res) s = .next (s.raise .malformedOperand)) := by
  by_cases h : reservedBitSet res = true
  · exact .inr ⟨h, by simp [exec, execFrag, h]⟩
  · exact .inl ⟨by simpa using h, by simp [exec, execFrag, h]⟩

/-- Everything BARRIER can do. -/
theorem execBarrier_cases (s : State) :
    (hazardFree s.params s.store s.pending = true ∧
      exec .barrier s = .next (s.closeBatch (performBatch s.draws s.params s.store s.pending))) ∨
    (hazardFree s.params s.store s.pending = false ∧
      exec .barrier s = .next (s.raiseHazard (hazardStore s.draws s.params s.store s.pending))) := by
  by_cases h : hazardFree s.params s.store s.pending = true
  · exact .inl ⟨h, by simp [exec, execBarrier, h]⟩
  · exact .inr ⟨by simpa using h, by simp [exec, execBarrier, h]⟩

/-- Everything SET_XFORM can do. -/
theorem execSetXform_cases (ox oy ax ay aw ah : BitVec 16) (s : State) :
    (aw ≠ 0 ∧ ah ≠ 0 ∧
      exec (.setXform ox oy ax ay aw ah) s = .next (s.setXform (oy ++ ox) (ay ++ ax) (ah ++ aw))) ∨
    ((aw = 0 ∨ ah = 0) ∧
      exec (.setXform ox oy ax ay aw ah) s = .next (s.raise .degenerateTransform)) := by
  by_cases h : aw = 0 ∨ ah = 0
  · exact .inr ⟨h, by rcases h with h | h <;> simp [exec, execSetXform, h]⟩
  · have h' := not_or.1 h
    exact .inl ⟨h'.1, h'.2, by simp only [exec, execSetXform, if_neg h]⟩

/-- Everything VTX_MAP can do. -/
theorem exec_vtxMap (px py : BitVec 16) (s : State) :
    exec (.vtxMap px py) s =
      .next (s.emitNdc (ndcAxis px s.ox s.ax s.aw, ndcAxis py s.oy s.ay s.ah)) := rfl

/-! ### Stage selectors -/

/-- A stage selector answers a next state that differs in the fragment under evaluation alone. -/
theorem exec_stage (op : StageOp) (s : State) : ∃ dp, exec op.toInstr s = .next (s.withDp dp) := by
  cases op <;> exact ⟨_, rfl⟩

/-- Every instruction answers a next state: none stops. -/
theorem exec_next (i : Instr) (s : State) : ∃ t, exec i s = .next t := by
  cases i with
  | frag f res => rcases execFrag_cases f res s with h | h <;> exact ⟨_, h.2⟩
  | barrier => rcases execBarrier_cases s with h | h <;> exact ⟨_, h.2⟩
  | setXform ox oy ax ay aw ah =>
    rcases execSetXform_cases ox oy ax ay aw ah s with h | h
    · exact ⟨_, h.2.2⟩
    · exact ⟨_, h.2⟩
  | _ => exact ⟨_, rfl⟩

/-! ### A step -/

/-- Everything a step that answers next can have done: apply a stage selector, run a command of the
stream, or fault on a header. -/
theorem step_cases {s t : State} (h : step s = .next t) :
    s.faulted = false ∧
    ((∃ op dp, s.stagePort = some op ∧ t = { s with stagePort := none, dp := dp }) ∨
     (s.stagePort = none ∧ ∃ i rest, decode s.stream = .command i rest ∧
       exec i (s.consume (s.stream.length - rest.length) rest) = .next t) ∨
     (s.stagePort = none ∧ decode s.stream = .error .illegalHeader ∧
       t = (s.consume 1 s.stream.tail).raise .illegalCommand) ∨
     (s.stagePort = none ∧ decode s.stream = .error .truncated ∧
       t = (s.consume 1 s.stream.tail).raise .truncatedPacket)) := by
  unfold step at h
  split at h
  · cases h
  · rename_i hf
    refine ⟨by simpa using hf, ?_⟩
    split at h
    · rename_i op hop
      obtain ⟨dp, hdp⟩ := exec_stage op { s with stagePort := none }
      rw [hdp] at h
      cases h
      exact .inl ⟨op, dp, hop, rfl⟩
    · rename_i hop
      split at h
      · rename_i i rest hd
        exact .inr (.inl ⟨hop, i, rest, hd, h⟩)
      · rename_i e hd
        cases e with
        | endOfInput => cases h
        | illegalHeader =>
          cases h
          exact .inr (.inr (.inl ⟨hop, hd, rfl⟩))
        | truncated =>
          cases h
          exact .inr (.inr (.inr ⟨hop, hd, rfl⟩))

end Sys2Proof.Machine
end

