-- ==== Sys2Proof/Laws/PerInstr.lean ====
section
/-! SUPPORT. Facts made per instruction about the instruction as syntax: the length of its encoding
(30_encoding.md R80; a stage selector is one word of DS0, R95). -/

namespace Sys2Proof.Laws.EncodedLength

/-- A command's encoding has its packet's length; a stage selector's is one word. -/
def Statement : Instr → Prop
  | i => (encode i).length =
    match i with
    | .frag _ _ => 9
    | .barrier => 1
    | .setXform _ _ _ _ _ _ => 4
    | .vtxMap _ _ => 2
    | .texNone => 1
    | .tex4bpp => 1
    | .tex8bpp => 1
    | .tex15bpp => 1
    | .texRsvd => 1
    | .modRaw => 1
    | .modBlend => 1
    | .ditherOff => 1
    | .ditherOn => 1
    | .blendNone => 1
    | .blendAvg => 1
    | .blendAdd => 1
    | .blendSub => 1
    | .blendQadd => 1
    | .outFormat => 1

theorem frag (f : Frag) (res : FragReserved) : Statement (.frag f res) := rfl
theorem barrier : Statement .barrier := rfl
theorem setXform (ox oy ax ay aw ah : BitVec 16) : Statement (.setXform ox oy ax ay aw ah) := rfl
theorem vtxMap (px py : BitVec 16) : Statement (.vtxMap px py) := rfl
theorem texNone : Statement .texNone := rfl
theorem tex4bpp : Statement .tex4bpp := rfl
theorem tex8bpp : Statement .tex8bpp := rfl
theorem tex15bpp : Statement .tex15bpp := rfl
theorem texRsvd : Statement .texRsvd := rfl
theorem modRaw : Statement .modRaw := rfl
theorem modBlend : Statement .modBlend := rfl
theorem ditherOff : Statement .ditherOff := rfl
theorem ditherOn : Statement .ditherOn := rfl
theorem blendNone : Statement .blendNone := rfl
theorem blendAvg : Statement .blendAvg := rfl
theorem blendAdd : Statement .blendAdd := rfl
theorem blendSub : Statement .blendSub := rfl
theorem blendQadd : Statement .blendQadd := rfl
theorem outFormat : Statement .outFormat := rfl

end Sys2Proof.Laws.EncodedLength
end

