-- ==== Sys2Proof/Tests/Slice0.lean ====
section
/-! SUPPORT. The model's own tests: ill-formed terms the checks refuse, decoding of words written out from
30_encoding.md, one-step vectors of 95_test_vectors.md, and a witness for the hypotheses of each statement. -/

set_option Elab.async false

namespace Sys2Proof.Tests
open Sys2Proof.Machine

/-! ### Helpers -/

/-- The next state an outcome answers, if it answers one. -/
def next? : Host.Outcome State Fault Refusal → Option State
  | .next t => some t
  | .fault _ => none
  | .refused _ => none

/-- The next state of `exec` meets a check. -/
def execMeets (i : Instr) (s : State) (check : State → Bool) : Bool := (next? (exec i s)).any check

/-- The next state of `step` meets a check. -/
def stepMeets (s : State) (check : State → Bool) : Bool := (next? (step s)).any check

theorem next_of_meets {o : Host.Outcome State Fault Refusal} {check : State → Bool}
    (h : (next? o).any check = true) : ∃ t, o = .next t ∧ check t = true := by
  match o with
  | .next t => exact ⟨t, rfl, h⟩
  | .fault _ => cases h
  | .refused _ => cases h

/-- A store that holds the listed words: column, row, word. -/
def storeOf (ws : List (Nat × Nat × Pixel)) : Memory :=
  ws.foldl (fun m w => m.writeWord (wrapAddr w.1 w.2.1) w.2.2) []

/-- The reset machine with these store words and this stream. -/
def launched (ws : List (Nat × Nat × Pixel)) (stream : List Word) : State :=
  State.launch Params.default (storeOf ws) stream

/-- The reset machine with these store words, evaluating this fragment. -/
def evaluating (ws : List (Nat × Nat × Pixel)) (f : Frag) : State :=
  (launched ws []).loadFragment f

/-- An untextured grey fragment at a destination. -/
def grey (c : BitVec 8) (x y : BitVec 16) : Frag :=
  { Frag.zero with dx := x, dy := y, sr := c, sg := c, sb := c }

/-- A textured fragment of a depth mode at texel (u, v), TC_FRAC = 4. -/
def textured (d : Depth) (u v : Int) : Frag :=
  { Frag.zero with tex := true, depth := d, u := BitVec.ofInt 32 (16 * u), v := BitVec.ofInt 32 (16 * v) }

/-- The reset machine, evaluating a fragment whose texel and front colour are known. -/
def midway (ws : List (Nat × Nat × Pixel)) (f : Frag) (t : Texel) (front : Rat) : State :=
  let s := evaluating ws f
  { s with dp := { s.dp with texel := t, front := ⟨front, front, front⟩ } }

/-! ### Well-formedness: an ill-formed term for each check (30_encoding.md R94, R127) -/

theorem test_legal_frag_wellFormed : (Instr.frag Frag.zero FragReserved.clear).wellFormed = true := by
  decide

theorem test_reserved_fields_refused :
    (Instr.frag Frag.zero { FragReserved.clear with ds0 := 1 }).wellFormed = false ∧
    (Instr.frag Frag.zero { FragReserved.clear with ds1 := 1 }).wellFormed = false ∧
    (Instr.frag Frag.zero { FragReserved.clear with ds2lo := 1 }).wellFormed = false ∧
    (Instr.frag Frag.zero { FragReserved.clear with ds2hi := 1 }).wellFormed = false ∧
    (Instr.frag Frag.zero { FragReserved.clear with ds3lo := 1 }).wellFormed = false ∧
    (Instr.frag Frag.zero { FragReserved.clear with ds3hi := 1 }).wellFormed = false ∧
    (Instr.frag Frag.zero { FragReserved.clear with p3 := 1 }).wellFormed = false := by
  decide

theorem test_zero_size_refused :
    (Instr.setXform 0 0 0 0 0 240).wellFormed = false ∧
    (Instr.setXform 0 0 0 0 320 0).wellFormed = false ∧
    (Instr.setXform 0 0 0 0 1 1).wellFormed = true := by
  decide

/-! ### Decoding: words written out from the tables of 30_encoding.md -/

/-- DS0 = BM 10, STE 1, DTH 1, FLY 0, FLX 1, DEPTH 10, TBL 0, TEX 1; DS1 = WOY 00100, WOX 00011,
WMY 00010, WMX 00001; and the words of R87 to R91, every field with a value of its own. -/
theorem test_decode_frag :
    decode [0x00000001, 0b1011011001, 0b00100000110001000001, 0x00AA0155, 0x01FD03FE, 0xFFFEFFFF,
      0x00000123, 0xFFFFFFF8, 0x00030201, 0x00000002] =
    .command
      (.frag
        { tex := true, tbl := false, depth := .direct, flx := true, fly := false, dth := true, ste := true,
          bm := .sub, wmx := 1, wmy := 2, wox := 3, woy := 4, tpx := 0x155, tpy := 0x0AA, clx := 0x3FE,
          cly := 0x1FD, dx := -1, dy := -2, u := 0x123, v := -8, sr := 1, sg := 2, sb := 3 }
        FragReserved.clear)
      [0x00000002] := by
  decide

/-- The lowest bit of each reserved field of R94 is read. -/
theorem test_decode_frag_reserved :
    decode [0x00000001, 0x00000400, 0x00100000, 0x02000400, 0x02000400, 0, 0, 0, 0x01000000] =
    .command (.frag Frag.zero ⟨1, 1, 1, 1, 1, 1, 1⟩) [] := by
  decide

theorem test_decode_barrier : decode [0x00000002, 5] = .command .barrier [5] := by decide

theorem test_decode_setXform :
    decode [0x00000003, 0xFFFB000A, 0x00320064, 0x006400C8] =
      .command (.setXform 10 (-5) 100 50 200 100) [] := by
  decide

theorem test_decode_vtxMap :
    decode [0x00000004, 0x0100FFFF] = .command (.vtxMap (-1) 256) [] := by
  decide

/-- Vectors C-1 to C-6. -/
theorem test_decode_rejects :
    decode [0x00000000] = .error .illegalHeader ∧ decode [0x00000005] = .error .illegalHeader ∧
    decode [0x00000012] = .error .illegalHeader ∧ decode [0x00000005, 1] = .error .illegalHeader ∧
    decode [0x00000001, 0, 0] = .error .truncated ∧
    decode [0x00000001, 0x00000400, 0] = .error .truncated := by
  decide

/-- R95, texture source: DS0[0] = 0; DS0[0] = 1 with DS0[3:2] = 0, 1, 2, 3. -/
theorem test_select_texture :
    .texNone ∈ selectedOps 0b0000 ∧ .tex4bpp ∈ selectedOps 0b0001 ∧ .tex8bpp ∈ selectedOps 0b0101 ∧
    .tex15bpp ∈ selectedOps 0b1001 ∧ .texRsvd ∈ selectedOps 0b1101 ∧
    .tex15bpp ∉ selectedOps 0b1000 ∧ .texRsvd ∈ selectedOps 0b1111111111 := by
  decide

/-- R95, modulation: DS0[1:0] = 01, 11; none at 00 and 10. -/
theorem test_select_modulation :
    .modRaw ∈ selectedOps 0b01 ∧ .modBlend ∈ selectedOps 0b11 ∧
    .modRaw ∉ selectedOps 0b00 ∧ .modBlend ∉ selectedOps 0b10 := by
  decide

/-- R95, dither: DS0[6]. -/
theorem test_select_dither :
    .ditherOff ∈ selectedOps 0b0000000 ∧ .ditherOn ∈ selectedOps 0b1000000 ∧
    .ditherOff ∉ selectedOps 0b1000000 := by
  decide

/-- R95, compositing: DS0[7] = 0; DS0[7] = 1 with DS0[9:8] = 0, 1, 2, 3. Output: every DS0. -/
theorem test_select_blend_and_output :
    .blendNone ∈ selectedOps 0b1100000000 ∧ .blendAvg ∈ selectedOps 0b0010000000 ∧
    .blendAdd ∈ selectedOps 0b0110000000 ∧ .blendSub ∈ selectedOps 0b1010000000 ∧
    .blendQadd ∈ selectedOps 0b1110000000 ∧ .outFormat ∈ selectedOps 0 := by
  decide

/-- The rows' match words, as the opcode table numbers them; MOD_RAW, DITHER_OFF and BLEND_NONE share
theirs with a row of the texture source (notes/assumptions/10.md). -/
theorem test_table_words :
    decodeTableWord 32 1 = some (.frag Frag.zero FragReserved.clear) ∧
    decodeTableWord 32 2 = some .barrier ∧ decodeTableWord 32 3 = some (.setXform 0 0 0 0 0 0) ∧
    decodeTableWord 32 4 = some (.vtxMap 0 0) ∧ decodeTableWord 32 5 = none ∧
    decodeTableWord 8 0x000 = some .texNone ∧ decodeTableWord 8 0x001 = some .tex4bpp ∧
    decodeTableWord 8 0x005 = some .tex8bpp ∧ decodeTableWord 8 0x009 = some .tex15bpp ∧
    decodeTableWord 8 0x00D = some .texRsvd ∧ decodeTableWord 8 0x003 = some .modBlend ∧
    decodeTableWord 8 0x040 = some .ditherOn ∧ decodeTableWord 8 0x080 = some .blendAvg ∧
    decodeTableWord 16 0x180 = some .blendAdd ∧ decodeTableWord 16 0x280 = some .blendSub ∧
    decodeTableWord 16 0x380 = some .blendQadd ∧ decodeTableWord 0 0 = some .outFormat := by
  decide

/-! ### One step: vectors of 95_test_vectors.md -/

/-- C-12. -/
theorem test_frag_pends :
    stepMeets (launched [] [1, 0, 0, 0, 0, 0, 0, 0, 0]) (fun t => t.status == 0x00000100) = true := by
  decide +kernel

/-- C-8: the reserved bit DS2[10]. -/
theorem test_frag_reserved_bit :
    stepMeets (launched [] [1, 0, 0, 0x400, 0, 0, 0, 0, 0]) (fun t => t.status == 0x80000002) = true := by
  decide +kernel

/-- C-14: DX = -1 wraps to column 1023. -/
theorem test_barrier_writes :
    execMeets .barrier { launched [] [] with pending := [grey 255 (-1) 0] }
      (fun t => t.status == 0 && t.store.readWord ⟨1023, 0⟩ == 0x7FFF) = true := by
  decide +kernel

/-- H-1: the second fragment reads the word that the first writes. -/
theorem test_barrier_hazard :
    execMeets .barrier
      { launched [] [] with pending := [grey 80 7 2, { grey 255 7 2 with ste := true }] }
      (fun t => t.status == 0x80000104) = true := by
  decide +kernel

/-- X-1. -/
theorem test_setXform_loads :
    execMeets (.setXform 0 0 0 0 320 240) State.reset (fun t => t.xformSize == 0x00F00140) = true := by
  decide +kernel

/-- C-10: AW = 0, and XFORM keeps its reset value. -/
theorem test_setXform_degenerate :
    execMeets (.setXform 0 0 0 0 0 240) State.reset
      (fun t => t.status == 0x80000003 && t.xformSize == 0x02000400) = true := by
  decide +kernel

/-- X-5: offset, origin and size each with a value of its own. -/
theorem test_vtxMap_centre :
    execMeets (.vtxMap 190 105)
      { State.reset with
        xformOffset := 0xFFFB000A, xformOrigin := 0x00320064, xformSize := 0x006400C8 }
      (fun t => t.ndcOut == [(0, 0)]) = true := by
  decide +kernel

/-- X-6: outside [-1, 1], no clamp. -/
theorem test_vtxMap_outside :
    execMeets (.vtxMap (-1) 0) State.reset (fun t => t.ndcOut == [(-513 / 512, -1)]) = true := by
  decide +kernel

/-- R151, R124: an untextured fragment's front colour is the dithered shade over 255, unclamped
(258/255 in D-5). -/
theorem test_texNone_shade :
    execMeets .texNone
      { evaluating [] Frag.zero with dp := { Datapath.idle with shade := ⟨258, 0, -4⟩ } }
      (fun t => t.dp.front == ⟨258 / 255, 0, -4 / 255⟩) = true := by
  decide +kernel

/-- T-6: horizontal flip moves the column, not the sub-index. -/
theorem test_tex4bpp_flip :
    execMeets .tex4bpp
      (evaluating [(125, 3, 0x3210), (2, 480, 0x1357)]
        { textured .bpp4 10 3 with flx := true, tpx := 64, cly := 480 })
      (fun t => t.dp.texel == .word 0x1357) = true := by
  decide +kernel

/-- T-15: palette entry 0 holds zero, so the fragment is discarded. -/
theorem test_tex4bpp_discard :
    execMeets .tex4bpp (evaluating [(0, 0, 0), (0, 480, 0)] { textured .bpp4 0 0 with cly := 480 })
      (fun t => t.dp.texel == .transparent && t.dp.outcome == some .discard) = true := by
  decide +kernel

/-- T-13: the palette column wraps, its row does not change. -/
theorem test_tex8bpp_palette_wrap :
    execMeets .tex8bpp
      (evaluating [(69, 3, 0xABCD), (201, 7, 0x1111)]
        { textured .bpp8 10 3 with tpx := 64, clx := 1020, cly := 7 })
      (fun t => t.dp.texel == .word 0x1111) = true := by
  decide +kernel

/-- T-12. -/
theorem test_tex8bpp_flip :
    execMeets .tex8bpp
      (evaluating [(186, 3, 0xABCD), (205, 0, 0x2468)] { textured .bpp8 10 3 with flx := true, tpx := 64 })
      (fun t => t.dp.texel == .word 0x2468) = true := by
  decide +kernel

/-- T-4: the texture window. -/
theorem test_tex15bpp_window :
    execMeets .tex15bpp
      (evaluating [(14, 0, 0x0777)] { textured .direct 30 0 with wmx := 3, wox := 1 })
      (fun t => t.dp.texel == .word 0x0777) = true := by
  decide +kernel

/-- T-17: black with the mask bit set is not transparent. -/
theorem test_tex15bpp_black_masked :
    execMeets .tex15bpp (evaluating [(0, 0, 0x8000)] (textured .direct 0 0))
      (fun t => t.dp.texel == .word 0x8000) = true := by
  decide +kernel

/-- T-19. -/
theorem test_texRsvd_is_direct :
    execMeets .texRsvd (evaluating [(16, 0, 0x4210)] (textured .rsvd 16 0))
      (fun t => t.dp.texel == .word 0x4210) = true := by
  decide +kernel

/-- T-21: C210 has red 16, green 16, blue 16. -/
theorem test_modRaw_ignores_shade :
    execMeets .modRaw (midway [] Frag.zero (.word 0xC210) 0)
      (fun t => t.dp.front == ⟨16 / 31, 16 / 31, 16 / 31⟩) = true := by
  decide +kernel

/-- T-23: 16/31 at twice full shade is 32/31, before the clamp. -/
theorem test_modBlend_doubles :
    execMeets .modBlend
      { midway [] Frag.zero (.word 0x4210) 0 with
        dp := { Datapath.idle with texel := .word 0x4210, shade := ⟨255, 255, 0⟩ } }
      (fun t => t.dp.front == ⟨32 / 31, 32 / 31, 0⟩) = true := by
  decide +kernel

/-- D-1, off. -/
theorem test_ditherOff_keeps :
    execMeets .ditherOff (evaluating [] (grey 8 0 0)) (fun t => t.dp.shade == ⟨8, 8, 8⟩) = true := by
  decide +kernel

/-- D-3: column 2 of row 1 holds +3 (row 2 of column 1 holds 1). -/
theorem test_ditherOn_cell :
    execMeets .ditherOn (evaluating [] (grey 12 2 1)) (fun t => t.dp.shade == ⟨15, 15, 15⟩) = true := by
  decide +kernel

/-- D-4: no clamp. -/
theorem test_ditherOn_below_zero :
    execMeets .ditherOn (evaluating [] (grey 0 0 0)) (fun t => t.dp.shade == ⟨-4, -4, -4⟩) = true := by
  decide +kernel

/-- D-5: 258/255 clamps to 1. -/
theorem test_blendNone_clamps :
    execMeets .blendNone (midway [] Frag.zero .untextured (258 / 255))
      (fun t => t.dp.color == ⟨1, 1, 1⟩) = true := by
  decide +kernel

/-- B-1. -/
theorem test_blendAvg :
    execMeets .blendAvg (midway [(0, 0, 0x294A)] { Frag.zero with ste := true } .untextured 1)
      (fun t => t.dp.color == ⟨41 / 62, 41 / 62, 41 / 62⟩) = true := by
  decide +kernel

/-- B-2: saturates. -/
theorem test_blendAdd :
    execMeets .blendAdd (midway [(0, 0, 0x294A)] { Frag.zero with ste := true } .untextured 1)
      (fun t => t.dp.color == ⟨1, 1, 1⟩) = true := by
  decide +kernel

/-- B-7: back minus front. -/
theorem test_blendSub :
    execMeets .blendSub (midway [(0, 0, 0x5294)] { Frag.zero with ste := true } (.word 0x94A5) (5 / 31))
      (fun t => t.dp.color == ⟨15 / 31, 15 / 31, 15 / 31⟩) = true := by
  decide +kernel

/-- B-4. -/
theorem test_blendQadd :
    execMeets .blendQadd (midway [(0, 0, 0x294A)] { Frag.zero with ste := true } .untextured 1)
      (fun t => t.dp.color == ⟨71 / 124, 71 / 124, 71 / 124⟩) = true := by
  decide +kernel

/-- B-8: a texel whose mask bit is 0 requests no blending. -/
theorem test_blendQadd_unrequested :
    execMeets .blendQadd
      (midway [(0, 0, 0x7FFF)] { Frag.zero with ste := true } (.word 0x4210) (16 / 31))
      (fun t => t.dp.color == ⟨16 / 31, 16 / 31, 16 / 31⟩) = true := by
  decide +kernel

/-- O-1: red lowest. -/
theorem test_outFormat_lanes :
    execMeets .outFormat
      { evaluating [] Frag.zero with dp := { Datapath.idle with color := ⟨1, 128 / 255, 0⟩ } }
      (fun t => t.dp.outcome == some (.write ⟨0, 0⟩ 0x021F)) = true := by
  decide +kernel

/-- B-10: the tie 15.5 goes up by default and down where the parameter says so. -/
theorem test_outFormat_tie :
    execMeets .outFormat { State.reset with dp := { Datapath.idle with color := ⟨1 / 2, 1 / 2, 1 / 2⟩ } }
      (fun t => t.dp.outcome == some (.write ⟨0, 0⟩ 0x4210)) = true ∧
    execMeets .outFormat
      { State.reset with
        params := { Params.default with quantTies := 0 }
        dp := { Datapath.idle with color := ⟨1 / 2, 1 / 2, 1 / 2⟩ } }
      (fun t => t.dp.outcome == some (.write ⟨0, 0⟩ 0x3DEF)) = true := by
  decide +kernel

/-- P5, in one batch: texture, modulation, dither, composition and format together. -/
theorem test_p5_batch :
    execMeets .barrier
      { launched [(16, 0, 0x4210)] [] with
        pending :=
          [{ textured .direct 16 0 with
              tbl := true, dth := true, dx := 5, dy := 1, sr := 128, sg := 128, sb := 128 }] }
      (fun t => t.status == 0 && t.store.readWord ⟨5, 1⟩ == 0x4210) = true := by
  decide +kernel

/-- The host's word places a command at the front of the stream and a selector at the stage port. -/
theorem test_withFetchWord :
    stepMeets (State.reset.withFetchWord 32 1) (fun t => t.status == 0x00000100) = true ∧
    stepMeets (State.reset.withFetchWord 32 3) (fun t => t.status == 0x80000003) = true ∧
    stepMeets (State.reset.withFetchWord 32 4) (fun t => t.ndcOut == [(-1, -1)]) = true ∧
    stepMeets (State.reset.withFetchWord 0 0)
      (fun t => t.dp.outcome == some (.write ⟨0, 0⟩ 0)) = true := by
  decide +kernel

/-! ### Witnesses: states and operands that meet the hypotheses of the statements -/

/-- Each of the four commands. -/
theorem witness_DecodeOfEncodedCommandIsTheCommand :
    (Instr.frag (grey 255 (-1) 0) ⟨1, 1, 1, 1, 1, 1, 1⟩).isCommand = true ∧
    Instr.barrier.isCommand = true ∧ (Instr.setXform 1 2 3 4 5 6).isCommand = true ∧
    (Instr.vtxMap 1 2).isCommand = true := by
  decide

/-- A packet of each command, with a word after it. -/
theorem witness_DecodedPacketIsTheEncodingOfItsCommand :
    (∃ i, decode [1, 0x3FF, 0, 0, 0, 0, 0, 0, 0, 7] = .command i [7]) ∧
    decode [2, 7] = .command .barrier [7] ∧
    decode [3, 0, 0, 1, 7] = .command (.setXform 0 0 0 0 1 0) [7] ∧
    decode [4, 0xFFFF, 7] = .command (.vtxMap (-1) 0) [7] :=
  ⟨⟨_, decode_frag ..⟩, by decide, by decide, by decide⟩

/-- A state for each clause: a command in the stream, a selector at the stage port. -/
theorem witness_StepRunsTheDecodedInstruction :
    (∃ s : State, s.faulted = false ∧ s.stagePort = none ∧ decode s.stream = .command .barrier []) ∧
    ∃ s : State, s.faulted = false ∧ s.stagePort = some .ditherOn :=
  ⟨⟨launched [] [2], by decide, by decide, by decide⟩,
   ⟨{ State.reset with stagePort := some .ditherOn }, by decide, by decide⟩⟩

/-- OPC 0, 5 and 15, and bits 4 and 31 set over a legal OPC. -/
theorem witness_IllegalHeaderFaultsIllegalCommand :
    ∀ h ∈ [(0x00000000 : Word), 0x00000005, 0x0000000F, 0x00000012, 0x80000001],
      ∃ s : State, s.faulted = false ∧ s.stagePort = none ∧ s.stream = h :: [1, 2] ∧
        (h.extractLsb' 0 4 ∉ [1, 2, 3, 4] ∨ h.extractLsb' 4 28 ≠ 0) := by
  intro h hh
  refine ⟨launched [] (h :: [1, 2]), rfl, rfl, rfl, ?_⟩
  simp only [List.mem_cons, List.not_mem_nil, or_false] at hh
  rcases hh with rfl | rfl | rfl | rfl | rfl <;> decide

/-- Each header, one payload word short and with none. -/
theorem witness_ShortPacketFaultsTruncatedPacket :
    ∀ c ∈ [((1 : Word), 9, [(0 : Word), 0, 0, 0, 0, 0, 0]), (1, 9, []), (3, 4, [0, 0]), (3, 4, []),
        (4, 2, [])],
      ∃ s : State, s.faulted = false ∧ s.stagePort = none ∧ s.stream = c.1 :: c.2.2 ∧
        (c.1, c.2.1) ∈ [((1 : Word), 9), (3, 4), (4, 2)] ∧ c.2.2.length < c.2.1 - 1 := by
  intro c hc
  refine ⟨launched [] (c.1 :: c.2.2), rfl, rfl, rfl, ?_⟩
  revert c
  decide

/-- Each reserved field, by its lowest or its highest bit. -/
theorem witness_ReservedBitOfFragPacketFaultsMalformedOperand :
    ∃ s : State, s.faulted = false ∧ s.stagePort = none ∧
      s.stream = [1, 0x00000400, 0x80000000, 0x02000400, 0x80008000, 0, 0, 0, 0x01000000] ∧
      (0x00000400#32).extractLsb' 10 22 ≠ 0 ∧ (0x80000000#32).extractLsb' 20 12 ≠ 0 ∧
      (0x02000400#32).extractLsb' 10 6 ≠ 0 ∧ (0x02000400#32).extractLsb' 25 7 ≠ 0 ∧
      (0x80008000#32).extractLsb' 10 6 ≠ 0 ∧ (0x80008000#32).extractLsb' 25 7 ≠ 0 ∧
      (0x01000000#32).extractLsb' 24 8 ≠ 0 :=
  ⟨launched [] [1, 0x00000400, 0x80000000, 0x02000400, 0x80008000, 0, 0, 0, 0x01000000],
    rfl, rfl, rfl, by decide⟩

theorem witness_FaultedOrIdleBlockHasNoStep :
    (∃ s : State, s.faulted = true ∧ s.code = 4) ∧
    ∃ s : State, s.faulted = false ∧ s.stagePort = none ∧ s.stream = [] ∧ s.pending ≠ [] :=
  ⟨⟨State.reset.raise .batchHazard, by decide⟩,
   ⟨State.reset.addPending Frag.zero, by decide⟩⟩

/-- H-3: two writers of one address; and H-2's blending fragment beside them. -/
def batchOfWriters : List Frag := [grey 80 7 2, grey 255 7 2, { grey 255 8 2 with ste := true }]

theorem witness_BarrierPerformsTheHazardFreeBatch :
    ∃ s : State, hazardFree s.params s.store s.pending = true ∧ s.pending.length = 3 :=
  ⟨{ launched [(8, 2, 0x294A)] [] with pending := batchOfWriters }, by decide +kernel⟩

/-- Addresses under each clause: written, and not written. -/
theorem witness_BarrierPerforms_clauses :
    fragmentResult Params.default (storeOf [(8, 2, 0x294A)]) (grey 80 7 2) = .write ⟨7, 2⟩ 0x294A ∧
    ∀ f ∈ batchOfWriters,
      writes Params.default (storeOf [(8, 2, 0x294A)]) f ≠ [] ∧
      ∀ w ∈ writes Params.default (storeOf [(8, 2, 0x294A)]) f,
        (0 : Nat) ≠ w.1.cell ∧ (0 : Nat) ≠ w.1.cell + 1 := by
  decide +kernel

/-- H-1. -/
theorem witness_BarrierFaultsOnAHazard :
    ∃ s : State, hazardFree s.params s.store s.pending = false :=
  ⟨{ State.reset with pending := [grey 80 7 2, { grey 255 7 2 with ste := true }] }, by decide +kernel⟩

theorem witness_BarrierOfAnEmptyBatchDoesNothing : ∃ s : State, s.pending = [] := ⟨State.reset, rfl⟩

/-- H-4: the first fragment writes the texel that the second reads. -/
theorem witness_HazardFreeMeansNoWriteMeetsAnothersRead :
    let m := storeOf [(16, 0, 0x4210)]
    let fs := [{ Frag.zero with dx := 16, sr := 255 }, textured .direct 16 0]
    (0 : Fin fs.length) ≠ 1 ∧ fragmentResult Params.default m fs[0] = .write ⟨16, 0⟩ 0x001F ∧
    ⟨16, 0⟩ ∈ reads Params.default m fs[1] := by
  decide +kernel

theorem witness_OrderOfPendingCarriesNoMeaning : [grey 80 7 2, grey 255 7 2].Perm [grey 255 7 2, grey 80 7 2] :=
  List.Perm.swap ..

theorem witness_SequentialOrdersLeaveWhatTheBatchMayLeave :
    hazardFree Params.default (storeOf [(8, 2, 0x294A)]) batchOfWriters = true := by
  decide +kernel

/-- Two stores that differ, and agree on the texel, the palette entry and the destination that a blending
4-bit fragment reads. -/
theorem witness_FragmentDependsOnlyOnWhatItReads :
    let f := { textured .bpp4 1 0 with cly := 480, dx := 5, dy := 5, ste := true }
    let m := storeOf [(0, 0, 0x0070), (7, 480, 0x8001), (5, 5, 0x0421), (9, 9, 0)]
    let m' := storeOf [(0, 0, 0x0070), (7, 480, 0x8001), (5, 5, 0x0421), (9, 9, 1)]
    reads Params.default m f = [⟨0, 0⟩, ⟨7, 480⟩, ⟨5, 5⟩] ∧
    (∀ a ∈ reads Params.default m f, m'.readWord a = m.readWord a) ∧ m' ≠ m := by
  decide +kernel

theorem witness_SetXformLoadsTheTransform : ∃ aw ah : BitVec 16, aw ≠ 0 ∧ ah ≠ 0 ∧ aw = 1 ∧ ah = -1 :=
  ⟨1, -1, by decide⟩

theorem witness_ZeroSizeFaultsDegenerateTransform :
    (∃ aw ah : BitVec 16, (aw = 0 ∨ ah = 0) ∧ ah = 1) ∧ (∃ aw ah : BitVec 16, (aw = 0 ∨ ah = 0) ∧ aw = 1) ∧
    ∃ aw ah : BitVec 16, (aw = 0 ∨ ah = 0) ∧ aw = ah :=
  ⟨⟨0, 1, by decide⟩, ⟨1, 0, by decide⟩, ⟨0, 0, by decide⟩⟩

/-- A packet for each clause: both halves not zero, at 1 and at FFFF; a zero half. -/
theorem witness_SetXformPacketLoadsItsPayloadWords :
    ∀ w3 ∈ [(0xFFFF0001 : Word), 0x0001FFFF, 0x00F00000, 0x00000140],
      ∃ s : State, s.faulted = false ∧ s.stagePort = none ∧ s.stream = [3, 0, 0, w3] ∧
        ((w3.extractLsb' 0 16 ≠ 0 ∧ w3.extractLsb' 16 16 ≠ 0) ∨
         (w3.extractLsb' 0 16 = 0 ∨ w3.extractLsb' 16 16 = 0)) := by
  intro w3 h
  refine ⟨launched [] [3, 0, 0, w3], rfl, rfl, rfl, ?_⟩
  simp only [List.mem_cons, List.not_mem_nil, or_false] at h
  rcases h with rfl | rfl | rfl | rfl <;> decide

theorem witness_VtxMapEmitsTheNormalisedPosition : ∃ s : State, s.aw ≠ 0 ∧ s.ah ≠ 0 :=
  ⟨State.reset, by decide⟩

/-- Positions at the origin, at origin plus size (for sizes 1 and FFFF) and just outside. -/
theorem witness_VtxMapFramesTheDrawingArea :
    (∃ pos size : BitVec 16, size ≠ 0 ∧ pos.toInt + (0 : BitVec 16).toInt - (0 : BitVec 16).toInt = 0) ∧
    (∃ pos size : BitVec 16, size ≠ 0 ∧ size = 1 ∧
      pos.toInt + (0 : BitVec 16).toInt - (0 : BitVec 16).toInt = size.toNat) ∧
    (∃ pos offset size : BitVec 16, size ≠ 0 ∧ size = 0xFFFF ∧
      pos.toInt + offset.toInt - (-1 : BitVec 16).toInt = size.toNat) ∧
    ∃ pos size : BitVec 16, size ≠ 0 ∧ pos.toInt + (0 : BitVec 16).toInt - (0 : BitVec 16).toInt = -1 :=
  ⟨⟨0, 1, by decide⟩, ⟨1, 1, by decide⟩, ⟨0x7FFF, 0x7FFF, 0xFFFF, by decide⟩, ⟨-1, 1, by decide⟩⟩

theorem witness_FlippedColumnHoldsTheMirroredTexel : (0 : Nat) ≤ 255 ∧ (255 : Nat) ≤ 255 := by decide

theorem witness_DirectTexelIsTheTextureWord :
    Instr.tex15bpp ∈ [Instr.tex15bpp, Instr.texRsvd] ∧ Instr.texRsvd ∈ [Instr.tex15bpp, Instr.texRsvd] := by
  decide

/-- States whose texture word gives a texel, and a discard, in each depth mode. -/
theorem witness_TexelClauses :
    ∀ d ∈ [Depth.bpp4, .bpp8, .direct, .rsvd],
      texelFetch Params.default (storeOf [(0, 0, 0x7FFF), (15, 0, 1), (255, 0, 1)]) (textured d 0 0) d ≠ 0 ∧
      texelFetch Params.default (storeOf [(0, 0, 0)]) (textured d 0 0) d = 0 := by
  decide +kernel

theorem witness_ModRawPassesTheTexelThrough : ∃ s : State, s.dp.texel = .word 0x8000 :=
  ⟨midway [] Frag.zero (.word 0x8000) 0, rfl⟩

theorem witness_ModBlendMultipliesByTwiceTheShade : ∃ s : State, s.dp.texel = .word 0x7FFF :=
  ⟨midway [] Frag.zero (.word 0x7FFF) 0, rfl⟩

theorem witness_ZeroFinalWordDiscards :
    ∀ d ∈ [Depth.bpp4, .bpp8, .direct, .rsvd],
      (textured d 0 0).tex = true ∧
      texelFetch Params.default (storeOf [(0, 0, 0)]) (textured d 0 0) (textured d 0 0).depth = 0 := by
  decide +kernel

theorem witness_BlendNoneTakesTheFrontColour :
    (∃ s : State, s.dp.texel ≠ .transparent ∧ s.dp.front.r = -4 / 255) ∧
    ∃ s : State, s.dp.texel ≠ .transparent ∧ s.dp.front.r = 32 / 31 :=
  ⟨⟨midway [] Frag.zero .untextured (-4 / 255), by decide +kernel⟩,
   ⟨midway [] Frag.zero (.word 1) (32 / 31), by decide +kernel⟩⟩

theorem witness_RequestedBlendsComputeTheirEquations :
    (∃ s : State, s.dp.frag.ste = true ∧ s.dp.texel = .untextured) ∧
    ∃ s : State, s.dp.frag.ste = true ∧ ∃ w : Pixel, s.dp.texel = .word w ∧ w.getLsbD 15 = true :=
  ⟨⟨midway [] { Frag.zero with ste := true } .untextured 1, rfl, rfl⟩,
   ⟨midway [] { Frag.zero with ste := true } (.word 0x8000) 0, rfl, 0x8000, rfl, by decide⟩⟩

theorem witness_UnrequestedBlendsDoWhatBlendNoneDoes :
    (∃ s : State, s.dp.texel = .untextured ∧ s.dp.frag.ste = false) ∧
    (∃ s : State, ∃ w : Pixel, s.dp.texel = .word w ∧ s.dp.frag.ste = false ∧ w.getLsbD 15 = true) ∧
    ∃ s : State, ∃ w : Pixel, s.dp.texel = .word w ∧ s.dp.frag.ste = true ∧ w.getLsbD 15 = false :=
  ⟨⟨midway [] Frag.zero .untextured 1, rfl, rfl⟩,
   ⟨midway [] Frag.zero (.word 0x8000) 1, 0x8000, rfl, rfl, by decide⟩,
   ⟨midway [] { Frag.zero with ste := true } (.word 0x7FFF) 1, 0x7FFF, rfl, rfl, by decide⟩⟩

/-- The ends of [0, 1] and an exact tie. -/
theorem witness_QuantiserMeetsItsLaws :
    ∀ v ∈ [(0 : Rat), 1 / 62, 1], 0 ≤ v ∧ v ≤ 1 ∧ v ≤ 1 ∧ (1 : Rat) ≤ 1 := by
  decide +kernel

/-- The default quantiser is a function that meets the laws. -/
theorem witness_TieChoicesAreAllOfQuant5 :
    ∃ q : Rat → Int,
      (∀ v, 0 ≤ v → v ≤ 1 → 0 ≤ q v ∧ q v ≤ 31 ∧ |(q v : Rat) - 31 * v| ≤ 1 / 2) ∧
      (∀ v v', 0 ≤ v → v ≤ v' → v' ≤ 1 → q v ≤ q v') := by
  refine ⟨fun v => ⌊31 * v + 1 / 2⌋, fun v h₀ h₁ => ⟨?_, ?_, ?_⟩, fun v v' _ h _ => ?_⟩
  · exact Int.floor_nonneg.2 (by linarith)
  · exact Int.lt_add_one_iff.1 (Int.floor_lt.2 (by push_cast; linarith))
  · have hl := Int.floor_le (31 * v + 1 / 2)
    have hu := Int.lt_floor_add_one (31 * v + 1 / 2)
    exact abs_le.2 ⟨by linarith, by linarith⟩
  · exact Int.floor_le_floor (by linarith)

theorem witness_OutFormatPacksTheQuantisedColour :
    (∃ s : State, s.dp.texel ≠ .transparent ∧ s.dp.texel = .untextured) ∧
    ∃ s : State, s.dp.texel ≠ .transparent ∧ s.dp.texel = .word 0x8000 :=
  ⟨⟨State.reset, by decide⟩, ⟨midway [] Frag.zero (.word 0x8000) 0, by decide +kernel⟩⟩

/-- O-4 with STE = 0, and a mask bit of 0 with STE = 1. -/
theorem witness_RawUnblendedTexelIsWrittenUnchanged :
    (let f := textured .direct 16 0
     let w := texelFetch Params.default (storeOf [(16, 0, 0x8001)]) f f.depth
     f.tex = true ∧ f.tbl = false ∧ w ≠ 0 ∧ f.ste = false) ∧
    (let f := { textured .direct 16 0 with ste := true }
     let w := texelFetch Params.default (storeOf [(16, 0, 0x0001)]) f f.depth
     f.tex = true ∧ f.tbl = false ∧ w ≠ 0 ∧ w.getLsbD 15 = false) := by
  decide +kernel

theorem witness_LaterStagesLeaveADiscardedFragmentAlone : ∃ s : State, s.dp.texel = .transparent :=
  ⟨midway [] Frag.zero .transparent 0, rfl⟩

/-- Two records that differ, for each clause. -/
theorem witness_UnusedFieldsChangeNothing :
    (∃ f g : Frag, f ≠ g ∧ f.tex = false ∧
      g = { f with
        tbl := g.tbl, depth := g.depth, flx := g.flx, fly := g.fly
        wmx := g.wmx, wmy := g.wmy, wox := g.wox, woy := g.woy
        tpx := g.tpx, tpy := g.tpy, clx := g.clx, cly := g.cly, u := g.u, v := g.v }) ∧
    (∃ f g : Frag, f ≠ g ∧ f.tex = true ∧ f.depth = .direct ∧ g = { f with clx := g.clx, cly := g.cly }) ∧
    (∃ f g : Frag, f ≠ g ∧ f.tex = true ∧ f.depth = .rsvd ∧ g = { f with clx := g.clx, cly := g.cly }) ∧
    (∃ f g : Frag, f ≠ g ∧ f.tex = true ∧ f.tbl = false ∧
      g = { f with sr := g.sr, sg := g.sg, sb := g.sb, dth := g.dth }) ∧
    ∃ f g : Frag, f ≠ g ∧ request f.ste (texelOf Params.default [] f) = false ∧ g = { f with bm := g.bm } :=
  ⟨⟨Frag.zero, { Frag.zero with tbl := true, depth := .rsvd, flx := true, wmx := 31, cly := 1, u := 9 },
      by decide⟩,
   ⟨textured .direct 0 0, { textured .direct 0 0 with clx := 1, cly := 511 }, by decide⟩,
   ⟨textured .rsvd 0 0, { textured .rsvd 0 0 with clx := 1023 }, by decide⟩,
   ⟨textured .bpp4 0 0, { textured .bpp4 0 0 with sr := 255, dth := true }, by decide⟩,
   ⟨Frag.zero, { Frag.zero with bm := .qadd }, by decide⟩⟩

/-- A step of each command from a state that meets the invariant. -/
theorem witness_StepKeepsTheInvariant :
    ∀ ws ∈ [[(1 : Word), 0, 0, 0, 0, 0, 0, 0, 0], [2], [3, 0, 0, 0x00010001], [4, 0], [5]],
      ∃ t, State.Inv (launched [] ws) ∧ step (launched [] ws) = .next t := by
  intro ws h
  have hs : (next? (step (launched [] ws))).any (fun _ => true) = true := by
    revert ws
    decide +kernel
  obtain ⟨t, ht, -⟩ := next_of_meets hs
  exact ⟨t, ⟨(by decide : State.reset.store.wf), (by decide : State.reset.aw ≠ 0),
    (by decide : State.reset.ah ≠ 0), (by decide : State.reset.code ≠ 0 ↔ State.reset.faulted = true),
    (by decide : State.reset.code.toNat ≤ 5)⟩, ht⟩

/-- A step that changes a known byte of the store (C-14's write, over a word of zero). -/
theorem witness_OnlyBarrierChangesTheStore :
    ∃ s t : State, step s = .next t ∧ ∃ c, t.store.readByte c ≠ s.store.readByte c := by
  obtain ⟨t, ht, hc⟩ := next_of_meets (o := step { launched [(0, 0, 0)] [2] with pending := [grey 255 0 0] })
    (check := fun t => t.store.readByte 0 == 0xFF) (by decide +kernel)
  exact ⟨_, t, ht, 0, by rw [beq_iff_eq.1 hc]; decide⟩

theorem witness_OnlySetXformWritesXform :
    ∃ s t : State, step s = .next t ∧ t.xformOffset ≠ s.xformOffset ∧
      t.xformOrigin ≠ s.xformOrigin ∧ t.xformSize ≠ s.xformSize := by
  obtain ⟨t, ht, hc⟩ := next_of_meets (o := step (launched [] [3, 1, 1, 0x00010001]))
    (check := fun t => t.xformOffset != 0 && t.xformOrigin != 0 && t.xformSize != 0x02000400)
    (by decide +kernel)
  simp only [Bool.and_eq_true, bne_iff_ne] at hc
  exact ⟨_, t, ht, hc.1.1, hc.1.2, hc.2⟩

/-- A step for each clause: a VTX_MAP packet, and a FRAG packet. -/
theorem witness_NdcOutCarriesOneValuePerVtxMap :
    (∃ s t : State, step s = .next t ∧ s.stagePort = none ∧ ∃ w rest, s.stream = 4 :: w :: rest) ∧
    ∃ s t : State, step s = .next t ∧ ¬ ∃ w rest, s.stream = 4 :: w :: rest := by
  obtain ⟨t, ht, -⟩ := next_of_meets (o := step (launched [] [4, 0])) (check := fun _ => true)
    (by decide +kernel)
  obtain ⟨t', ht', -⟩ := next_of_meets (o := step (launched [] [2])) (check := fun _ => true)
    (by decide +kernel)
  exact ⟨⟨_, t, ht, rfl, 0, [], rfl⟩, ⟨_, t', ht', by rintro ⟨w, rest, h⟩; cases h⟩⟩

/-- A step that faults, and one that does not. -/
theorem witness_OnlyAFaultWritesCodeAndFaulted :
    (∃ s t : State, step s = .next t ∧ t.faulted = true) ∧
    ∃ s t : State, step s = .next t ∧ t.faulted = false := by
  obtain ⟨t, ht, hc⟩ := next_of_meets (o := step (launched [] [5])) (check := fun t => t.faulted)
    (by decide +kernel)
  obtain ⟨t', ht', hc'⟩ := next_of_meets (o := step (launched [] [2])) (check := fun t => !t.faulted)
    (by decide +kernel)
  exact ⟨⟨_, t, ht, hc⟩, ⟨_, t', ht', by simpa using hc'⟩⟩

/-- A step that fills PENDING, and one that empties it. -/
theorem witness_PendingGrowsByFragAndEmptiesByBarrier :
    (∃ s t : State, step s = .next t ∧ t.pending ≠ s.pending ∧ s.pending = []) ∧
    ∃ s t : State, step s = .next t ∧ t.pending ≠ s.pending ∧ t.pending = [] := by
  obtain ⟨t, ht, hc⟩ := next_of_meets (o := step (launched [] [1, 0, 0, 0, 0, 0, 0, 0, 0]))
    (check := fun t => t.pending == [Frag.zero]) (by decide +kernel)
  obtain ⟨t', ht', hc'⟩ := next_of_meets (o := step { launched [] [2] with pending := [Frag.zero] })
    (check := fun t => t.pending == []) (by decide +kernel)
  rw [beq_iff_eq] at hc hc'
  exact ⟨⟨_, t, ht, by rw [hc]; decide, rfl⟩, ⟨_, t', ht', by rw [hc']; decide, hc'⟩⟩

/-- Two states with different transforms: one takes a step, one has none. -/
theorem witness_XformReachesNdcOutOnly :
    (∃ s s' t : State, s.AgreeButXform s' ∧ s.xformSize ≠ s'.xformSize ∧ step s = .next t) ∧
    ∃ s s' : State, s.AgreeButXform s' ∧ s.xformSize ≠ s'.xformSize ∧ step s = .fault .endOfInput := by
  obtain ⟨t, ht, -⟩ := next_of_meets (o := step (launched [] [4, 0])) (check := fun _ => true)
    (by decide +kernel)
  exact ⟨⟨_, { launched [] [4, 0] with xformSize := 1 }, t, rfl, by decide, ht⟩,
    ⟨State.reset, { State.reset with xformSize := 1 }, rfl, by decide, rfl⟩⟩

/-- Steps of a command and of a stage selector. -/
theorem witness_StepKeepsTheParameters :
    (∃ s t : State, step s = .next t ∧ s.stagePort = none) ∧
    ∃ s t : State, step s = .next t ∧ s.stagePort = some .outFormat := by
  obtain ⟨t, ht, -⟩ := next_of_meets (o := step (launched [] [2])) (check := fun _ => true)
    (by decide +kernel)
  obtain ⟨t', ht', -⟩ := next_of_meets
    (o := step { State.reset with stagePort := some .outFormat }) (check := fun _ => true)
    (by decide +kernel)
  exact ⟨⟨_, t, ht, rfl⟩, ⟨_, t', ht', rfl⟩⟩

/-- A state for each clause, and an address other than the one written. -/
theorem witness_HostTouchesTheStoreOnlyBetweenBatches :
    (∃ s : State, s.pending ≠ []) ∧ (∃ s : State, s.pending = []) ∧
    (⟨1023, 511⟩ : Addr) ≠ ⟨0, 0⟩ :=
  ⟨⟨State.reset.addPending Frag.zero, by decide⟩, ⟨State.reset, rfl⟩, by decide⟩

/-- Both byte orders, and the other byte of the word. -/
theorem witness_HostBytesFollowTheByteOrder :
    (∃ s : State, s.pending = [] ∧ s.params.byteOrder = .little) ∧
    (∃ s : State, s.pending = [] ∧ s.params.byteOrder = .big) ∧ (1 : Fin 2) ≠ 0 :=
  ⟨⟨State.reset, rfl, rfl⟩,
   ⟨{ State.reset with params := { Params.default with byteOrder := .big } }, rfl, rfl⟩, by decide⟩

end Sys2Proof.Tests
end

section
/-! PROOFS. STATUS as the status port shows it: one rule per field of the table of 10_state.md R24. -/

namespace Sys2Proof.Machine

theorem pend_eq_true_iff (s : State) : s.pend = true ↔ s.pending ≠ [] := by
  simp [State.pend]

@[simp] theorem status_code_field (s : State) : s.status.extractLsb' 0 4 = s.code :=
  BitVec.extractLsb'_append_eq_right

@[simp] theorem status_low_reserved_field (s : State) : s.status.extractLsb' 4 4 = 0 :=
  calc s.status.extractLsb' 4 4
    _ = BitVec.extractLsb' 0 4 (BitVec.ofBool s.faulted ++ (0 : BitVec 22) ++ BitVec.ofBool s.pend ++
          (0 : BitVec 4)) := BitVec.extractLsb'_append_eq_of_le (Nat.le_refl 4)
    _ = 0 := BitVec.extractLsb'_append_eq_right

theorem status_pend_bit (s : State) : s.status.getLsbD 8 = s.pend := by
  unfold State.status
  rw [BitVec.getLsbD_append, BitVec.getLsbD_append, BitVec.getLsbD_append]
  simp

/-- Above CODE, the low reserved field and PEND (nine bits) stand the high reserved field and FAULTED. -/
@[simp] theorem status_high_reserved_field (s : State) : s.status.extractLsb' 9 22 = 0 :=
  calc s.status.extractLsb' 9 22
    _ = BitVec.extractLsb' 0 22 (BitVec.ofBool s.faulted ++ (0 : BitVec 22)) := by
      unfold State.status
      rw [BitVec.extractLsb'_append_eq_of_le (by decide), BitVec.extractLsb'_append_eq_of_le (by decide),
        BitVec.extractLsb'_append_eq_of_le (by decide)]
    _ = 0 := BitVec.extractLsb'_append_eq_right

theorem status_faulted_bit (s : State) : s.status.getLsbD 31 = s.faulted := by
  unfold State.status
  rw [BitVec.getLsbD_append, BitVec.getLsbD_append, BitVec.getLsbD_append, BitVec.getLsbD_append]
  simp

/-- Settles O11: STATUS is the concatenation of its fields, read back one by one. -/
theorem statusShowsItsFields : Obligations.StatusShowsItsFields := by
  intro s
  have hpend : s.status.getLsbD 8 = true ↔ s.pending ≠ [] := by
    rw [status_pend_bit, pend_eq_true_iff]
  exact ⟨status_code_field s, status_low_reserved_field s, hpend, status_high_reserved_field s,
    status_faulted_bit s⟩

end Sys2Proof.Machine
end

section
/-! PROOFS. FRAG with a reserved bit set: the check of 30_encoding.md R94, and a step that runs a command. -/

namespace Sys2Proof.Machine

/-- A block that is not faulted, with an empty stage port, runs the command its stream decodes to (R120). -/
theorem step_of_decode_command {s : State} {i : Instr} {rest : List Word} (hrun : s.faulted = false)
    (hport : s.stagePort = none) (hdecode : decode s.stream = .command i rest) :
    step s = exec i (s.consume (s.stream.length - rest.length) rest) := by
  simp [step, hrun, hport, hdecode]

theorem reservedBitSet_eq_true_iff (r : FragReserved) :
    reservedBitSet r = true ↔
      r.ds0 ≠ 0 ∨ r.ds1 ≠ 0 ∨ r.ds2lo ≠ 0 ∨ r.ds2hi ≠ 0 ∨ r.ds3lo ≠ 0 ∨ r.ds3hi ≠ 0 ∨ r.p3 ≠ 0 := by
  simp only [reservedBitSet, Bool.or_eq_true, bne_iff_ne, or_assoc]

theorem exec_frag_of_reservedBitSet (f : Frag) {res : FragReserved} (s : State)
    (hres : reservedBitSet res = true) : exec (.frag f res) s = .next (s.raise .malformedOperand) := by
  rcases execFrag_cases f res s with ⟨hclear, -⟩ | ⟨-, hexec⟩
  · rw [hres] at hclear
    cases hclear
  · exact hexec

/-- Settles O9: the packet decodes to a FRAG whose reserved fields are those of its words, and FRAG with one
of them set only raises MALFORMED_OPERAND. -/
theorem reservedBitOfFragPacketFaultsMalformedOperand :
    Obligations.ReservedBitOfFragPacketFaultsMalformedOperand := by
  intro s ds0 ds1 ds2 ds3 p0 p1 p2 p3 rest hrun hport hstream hset
  have hres : reservedBitSet (decodeReserved ds0 ds1 ds2 ds3 p3) = true :=
    (reservedBitSet_eq_true_iff _).2 hset
  have hdecode := hstream ▸ decode_frag ds0 ds1 ds2 ds3 p0 p1 p2 p3 rest
  have hstep := step_of_decode_command hrun hport hdecode
  exact ⟨_, hstep.trans (exec_frag_of_reservedBitSet _ _ hres), rfl⟩

end Sys2Proof.Machine
end

section
/-! PROOFS. What a fragment's outcome and read set depend on, and the fields that none of it depends on
(30_encoding.md R96). -/

namespace Sys2Proof.Machine

/-! ### The outcome and the read set through the texel -/

/-- Fpre of a fragment by the texture stage's answer (40_fragment_pipeline_datapath.md R124); a discarded
fragment has none, and its value here is never used. -/
def preBlendColor (f : Frag) : Texel → Lanes Rat
  | .untextured => shadeColor (dither (shade f) (dest f) f.dth)
  | .transparent => Lanes.fill 0
  | .word w => if f.tbl then modBlendColor w (dither (shade f) (dest f) f.dth) else modRawColor w

/-- The words of `Reads(f)` that the texture stage reads (R130). -/
def textureReads (p : Params) (m : Memory) (f : Frag) : List Addr :=
  (if f.tex then [texAddr p f f.depth] else []) ++
  (if f.tex && hasPalette f.depth then [palAddr p m f f.depth] else [])

theorem fragmentResult_eq (p : Params) (m : Memory) (f : Frag) :
    fragmentResult p m f =
      if texelOf p m f = .transparent then .discard
      else finish p m f (preBlendColor f (texelOf p m f)) (request f.ste (texelOf p m f))
        (texelOf p m f).mask := by
  unfold fragmentResult
  cases texelOf p m f <;> rfl

theorem fragmentResult_ne_discard_of_request {p : Params} {m : Memory} {f : Frag}
    (hreq : request f.ste (texelOf p m f) = true) : fragmentResult p m f ≠ .discard := by
  have htexel : texelOf p m f ≠ .transparent := by
    intro h
    rw [h] at hreq
    cases hreq
  rw [fragmentResult_eq, if_neg htexel]
  exact FragOutcome.noConfusion

/-- The destination is read exactly where blending is requested: a discarded fragment requests none. -/
theorem reads_eq (p : Params) (m : Memory) (f : Frag) :
    reads p m f =
      textureReads p m f ++ if request f.ste (texelOf p m f) then [dest f] else [] := by
  have hdest : (fragmentResult p m f ≠ .discard ∧ request f.ste (texelOf p m f) = true) ↔
      request f.ste (texelOf p m f) = true :=
    and_iff_right_of_imp fragmentResult_ne_discard_of_request
  simp only [reads, textureReads, hdest]

theorem texelOf_untextured {f : Frag} (p : Params) (m : Memory) (htex : f.tex = false) :
    texelOf p m f = .untextured := by
  simp [texelOf, htex]

theorem textureReads_untextured {f : Frag} (p : Params) (m : Memory) (htex : f.tex = false) :
    textureReads p m f = [] := by
  simp [textureReads, htex]

theorem texelOf_textured {f : Frag} (p : Params) (m : Memory) (htex : f.tex = true) :
    texelOf p m f = Texel.ofWord (texelFetch p m f f.depth) := by
  simp [texelOf, htex]

theorem texelOf_of_no_palette {f : Frag} (p : Params) (m : Memory) (htex : f.tex = true)
    (hpal : hasPalette f.depth = false) :
    texelOf p m f = Texel.ofWord (m.readWord (texAddr p f f.depth)) := by
  simp [texelOf_textured p m htex, texelFetch, hpal]

theorem textureReads_of_no_palette {f : Frag} (p : Params) (m : Memory) (htex : f.tex = true)
    (hpal : hasPalette f.depth = false) : textureReads p m f = [texAddr p f f.depth] := by
  simp [textureReads, htex, hpal]

/-- A raw texel is the colour by itself (41_texture_palette_decoder.md R167). -/
theorem preBlendColor_raw {f : Frag} (w : Pixel) (htbl : f.tbl = false) :
    preBlendColor f (.word w) = modRawColor w := by
  simp [preBlendColor, htbl]

/-! ### Agreement of two fragments -/

/-- Two fragments that agree on all that one fragment's evaluation uses, each part only where it is used. -/
structure AgreeWhereUsed (p : Params) (m : Memory) (f g : Frag) : Prop where
  texel : texelOf p m g = texelOf p m f
  textureReads : textureReads p m g = textureReads p m f
  dest : dest g = dest f
  ste : g.ste = f.ste
  color : preBlendColor g (texelOf p m f) = preBlendColor f (texelOf p m f)
  blend : request f.ste (texelOf p m f) = true → g.bm = f.bm

theorem composite_congr_bm {req : Bool} {bm bm' : BlendMode} (m : Memory) (dst : Addr) (c : Lanes Rat)
    (hbm : req = true → bm = bm') : composite m dst bm req c = composite m dst bm' req c := by
  cases req with
  | false => rfl
  | true => rw [hbm rfl]

namespace AgreeWhereUsed

variable {p : Params} {m : Memory} {f g : Frag}

theorem fragmentResult_eq (h : AgreeWhereUsed p m f g) :
    fragmentResult p m g = fragmentResult p m f := by
  rw [Machine.fragmentResult_eq, Machine.fragmentResult_eq, h.texel, h.ste, h.color, finish, finish, h.dest,
    composite_congr_bm m _ _ h.blend]

theorem reads_eq (h : AgreeWhereUsed p m f g) : reads p m g = reads p m f := by
  rw [Machine.reads_eq, Machine.reads_eq, h.textureReads, h.texel, h.dest, h.ste]

/-! ### The rows of the table of R96 -/

theorem of_untextured (htex : f.tex = false)
    (hg : g = { f with
      tbl := g.tbl, depth := g.depth, flx := g.flx, fly := g.fly
      wmx := g.wmx, wmy := g.wmy, wox := g.wox, woy := g.woy
      tpx := g.tpx, tpy := g.tpy, clx := g.clx, cly := g.cly, u := g.u, v := g.v }) :
    AgreeWhereUsed p m f g := by
  have htex' : g.tex = false := (congrArg Frag.tex hg).trans htex
  have htexel := texelOf_untextured p m htex
  exact {
    texel := by rw [htexel, texelOf_untextured p m htex']
    textureReads := by rw [textureReads_untextured p m htex, textureReads_untextured p m htex']
    dest := by rw [hg]; rfl
    ste := by rw [hg]
    color := by rw [htexel, hg]; rfl
    blend := fun _ => by rw [hg] }

theorem of_direct (htex : f.tex = true) (hdepth : f.depth = .direct ∨ f.depth = .rsvd)
    (hg : g = { f with clx := g.clx, cly := g.cly }) : AgreeWhereUsed p m f g := by
  have hpal : hasPalette f.depth = false := by rcases hdepth with h | h <;> rw [h] <;> rfl
  generalize g.clx = x, g.cly = y at hg
  subst hg
  exact {
    texel := by
      rw [texelOf_of_no_palette (f := { f with clx := x, cly := y }) p m htex hpal,
        texelOf_of_no_palette p m htex hpal]
      rfl
    textureReads := by
      rw [textureReads_of_no_palette (f := { f with clx := x, cly := y }) p m htex hpal,
        textureReads_of_no_palette p m htex hpal]
      rfl
    dest := rfl
    ste := rfl
    color := rfl
    blend := fun _ => rfl }

theorem of_raw (htex : f.tex = true) (htbl : f.tbl = false)
    (hg : g = { f with sr := g.sr, sg := g.sg, sb := g.sb, dth := g.dth }) : AgreeWhereUsed p m f g := by
  have htbl' : g.tbl = false := by rw [hg]; exact htbl
  have hcolor : preBlendColor g (texelOf p m f) = preBlendColor f (texelOf p m f) := by
    rw [texelOf_textured p m htex, Texel.ofWord]
    split
    · rfl
    · rw [preBlendColor_raw _ htbl, preBlendColor_raw _ htbl']
  generalize g.sr = r, g.sg = gr, g.sb = b, g.dth = d at hg
  subst hg
  exact {
    texel := rfl
    textureReads := rfl
    dest := rfl
    ste := rfl
    color := hcolor
    blend := fun _ => rfl }

theorem of_unblended (hreq : request f.ste (texelOf p m f) = false)
    (hg : g = { f with bm := g.bm }) : AgreeWhereUsed p m f g := by
  generalize g.bm = bm at hg
  subst hg
  exact {
    texel := rfl
    textureReads := rfl
    dest := rfl
    ste := rfl
    color := rfl
    blend := fun h => absurd h (by rw [hreq]; exact Bool.false_ne_true) }

end AgreeWhereUsed

/-- Settles O46: in each row of the table of R96 the two fragments agree on all that the evaluation uses. -/
theorem unusedFieldsChangeNothing : Obligations.UnusedFieldsChangeNothing := by
  intro p m f g hrow
  have hagree : AgreeWhereUsed p m f g := by
    rcases hrow with ⟨htex, hg⟩ | ⟨htex, hdepth, hg⟩ | ⟨htex, htbl, hg⟩ | ⟨hreq, hg⟩
    · exact .of_untextured htex hg
    · exact .of_direct htex hdepth hg
    · exact .of_raw htex htbl hg
    · exact .of_unblended hreq hg
  exact ⟨hagree.fragmentResult_eq, hagree.reads_eq⟩

end Sys2Proof.Machine
end

section
/-! PROOFS. BARRIER on a hazard-free batch: who writes what, and what performing the batch leaves in the store
(40_fragment_pipeline_datapath.md R122, R123). -/

namespace Sys2Proof.Machine

variable {p : Params} {m : Memory} {fs : List Frag} {a : Addr} {v : Pixel}

theorem mem_writes_iff {f : Frag} : (a, v) ∈ writes p m f ↔ fragmentResult p m f = .write a v := by
  unfold writes
  cases fragmentResult p m f with
  | discard => simp
  | write b w => simp [eq_comm]

theorem mem_batchWrites_iff :
    (a, v) ∈ batchWrites p m fs ↔ ∃ f ∈ fs, fragmentResult p m f = .write a v := by
  simp only [batchWrites, List.mem_flatMap, mem_writes_iff]

/-- A written address holds a writer's word after the batch, since the winner is one of the candidates
(20_memory.md R62). -/
theorem readWord_performBatch_mem_batchWrites (draw : Nat) (h : (a, v) ∈ batchWrites p m fs) :
    (a, Memory.readWord (performBatch draw p m fs) a) ∈ batchWrites p m fs := by
  have haddr : a ∈ (batchWrites p m fs).map (·.1) := List.mem_map_of_mem h
  rw [readWord_performBatch, if_pos haddr]
  exact (mem_candidates _ _ _).1 (winner_mem draw a _ ((candidates_ne_nil_iff _ _).2 haddr))

/-- A byte outside the written words reads after the batch as before. -/
theorem readByte_performBatch_other (draw : Nat) {c : Nat}
    (h : ∀ a v, (a, v) ∈ batchWrites p m fs → c ≠ a.cell ∧ c ≠ a.cell + 1) :
    Memory.readByte (performBatch draw p m fs) c = m.readByte c :=
  readByte_foldl_writeWord _ (fun a => winner draw a (candidates (batchWrites p m fs) a)) m c
    fun w hw => h w.1 w.2 hw

theorem exec_barrier_of_hazardFree {s : State} (hfree : hazardFree s.params s.store s.pending = true) :
    exec .barrier s = .next (s.closeBatch (performBatch s.draws s.params s.store s.pending)) := by
  rcases execBarrier_cases s with ⟨-, hexec⟩ | ⟨hhazard, -⟩
  · exact hexec
  · rw [hfree] at hhazard
    cases hhazard

/-- Settles O13: BARRIER closes the batch with the store that performing it leaves, in which a written
address holds a winner among its writers' words and no other byte has changed. -/
theorem barrierPerformsTheHazardFreeBatch : Obligations.BarrierPerformsTheHazardFreeBatch := by
  intro s hfree
  refine ⟨_, exec_barrier_of_hazardFree hfree, ?written, ?unwritten, ?pend, rfl⟩
  case written =>
    rintro a ⟨f, hf, v, hwrite⟩
    exact mem_batchWrites_iff.1
      (readWord_performBatch_mem_batchWrites s.draws (mem_batchWrites_iff.2 ⟨f, hf, hwrite⟩))
  case unwritten =>
    intro c hother
    refine readByte_performBatch_other s.draws fun a v hmem => ?_
    obtain ⟨f, hf, hwrite⟩ := mem_batchWrites_iff.1 hmem
    exact hother f hf a v hwrite
  case pend => exact status_pend_bit _

end Sys2Proof.Machine
end

section
/-! PROOFS. A SET_XFORM packet at the front of the stream: its payload words reach the registers whole
(40_fragment_pipeline_datapath.md R127). -/

namespace Sys2Proof.Machine

/-- The two halves of a payload word, as the packet's operands carry them, make up the word again. -/
@[simp] theorem field_high_append_field_low (w : Word) : field w 16 16 ++ field w 0 16 = w := by
  have hstart : 16 = 0 + 16 := rfl
  unfold field
  rw [BitVec.extractLsb'_append_extractLsb'_eq_extractLsb' hstart]
  exact BitVec.extractLsb'_eq_self

/-- Settles O22: the packet decodes to a SET_XFORM of the halves of its words, which either loads the words
made up of these halves or raises DEGENERATE_TRANSFORM. -/
theorem setXformPacketLoadsItsPayloadWords : Obligations.SetXformPacketLoadsItsPayloadWords := by
  intro s w1 w2 w3 rest hrun hport hstream
  have hdecode := hstream ▸ decode_setXform w1 w2 w3 rest
  have hstep := step_of_decode_command hrun hport hdecode
  rcases execSetXform_cases (field w1 0 16) (field w1 16 16) (field w2 0 16) (field w2 16 16)
    (field w3 0 16) (field w3 16 16) (s.consume (s.stream.length - rest.length) rest) with
    ⟨hwidth, hheight, hexec⟩ | ⟨hzero, hexec⟩
  · simp only [field_high_append_field_low] at hexec
    exact ⟨_, hstep.trans hexec, .inl ⟨hwidth, hheight, rfl⟩⟩
  · exact ⟨_, hstep.trans hexec, .inr ⟨hzero, rfl⟩⟩

end Sys2Proof.Machine
end

section
/-! PROOFS. OUT_FORMAT: the fields of the packed word, and the outcome it leaves
(44_pixel_output_formatter.md R231, R232). -/

namespace Sys2Proof.Machine

/-! ### The fields of a formatted word -/

section

variable (p : Params) (c : Lanes Rat) (m : Bool)

@[simp] theorem formatPixel_red_field : (formatPixel p c m).extractLsb' 0 5 = quant5 p.quantTies c.r :=
  BitVec.extractLsb'_append_eq_right

/-- Green is the low field of what stands above the five bits of red. -/
@[simp] theorem formatPixel_green_field : (formatPixel p c m).extractLsb' 5 5 = quant5 p.quantTies c.g :=
  calc (formatPixel p c m).extractLsb' 5 5
    _ = BitVec.extractLsb' 0 5 (BitVec.ofBool m ++ quant5 p.quantTies c.b ++ quant5 p.quantTies c.g) :=
      BitVec.extractLsb'_append_eq_of_le (Nat.le_refl 5)
    _ = quant5 p.quantTies c.g := BitVec.extractLsb'_append_eq_right

/-- Blue is the low field of what stands above the ten bits of green and red. -/
@[simp] theorem formatPixel_blue_field : (formatPixel p c m).extractLsb' 10 5 = quant5 p.quantTies c.b :=
  calc (formatPixel p c m).extractLsb' 10 5
    _ = BitVec.extractLsb' 0 5 (BitVec.ofBool m ++ quant5 p.quantTies c.b) := by
      unfold formatPixel
      rw [BitVec.extractLsb'_append_eq_of_le (by decide), BitVec.extractLsb'_append_eq_of_le (by decide)]
    _ = quant5 p.quantTies c.b := BitVec.extractLsb'_append_eq_right

@[simp] theorem pixelMask_formatPixel : pixelMask (formatPixel p c m) = m := by
  unfold pixelMask formatPixel
  rw [BitVec.getLsbD_append, BitVec.getLsbD_append, BitVec.getLsbD_append]
  simp

end

/-! ### The outcome -/

/-- A fragment that is not discarded writes its formatted colour at its destination, with the mask bit of its
texel. -/
theorem format_of_not_transparent {dp : Datapath} (p : Params) (htexel : dp.texel ≠ .transparent) :
    dp.format p =
      { dp with outcome := some (.write (dest dp.frag) (formatPixel p dp.color dp.texel.mask)) } := by
  unfold Datapath.format
  cases h : dp.texel with
  | untextured => rfl
  | transparent => exact absurd h htexel
  | word w => rfl

theorem exec_outFormat_of_not_transparent {s : State} (htexel : s.dp.texel ≠ .transparent) :
    exec .outFormat s = .next (s.withDp { s.dp with
      outcome := some
        (.write (dest s.dp.frag) (formatPixel s.params s.dp.color s.dp.texel.mask)) }) := by
  rw [← format_of_not_transparent s.params htexel]
  rfl

/-- Settles O42: the word written is the formatted colour with the mask bit of the texel, read back field by
field. -/
theorem outFormatPacksTheQuantisedColour : Obligations.OutFormatPacksTheQuantisedColour := by
  intro s htexel
  refine ⟨formatPixel s.params s.dp.color s.dp.texel.mask, exec_outFormat_of_not_transparent htexel,
    formatPixel_red_field _ _ _, formatPixel_green_field _ _ _, formatPixel_blue_field _ _ _,
    ?untextured, ?textured⟩
  case untextured =>
    intro h
    rw [h]
    exact pixelMask_formatPixel _ _ false
  case textured =>
    intro w h
    rw [h]
    exact pixelMask_formatPixel _ _ (pixelMask w)

end Sys2Proof.Machine
end

section
/-! PROOFS. A header that gives no command: an illegal one, and a legal one whose payload is cut short
(60_exceptions.md R252, R256). -/

namespace Sys2Proof

theorem decodeOpcode_eq_none_iff (opc : BitVec 4) : decodeOpcode opc = none ↔ opc ∉ [1, 2, 3, 4] := by
  revert opc
  decide

/-- The illegal headers are those of 30_encoding.md R83. -/
theorem decodeHeader_eq_none_iff (h : Word) :
    decodeHeader h = none ↔ field h 0 4 ∉ [1, 2, 3, 4] ∨ field h 4 28 ≠ 0 := by
  unfold decodeHeader
  by_cases hhigh : field h 4 28 = 0
  · rw [if_pos hhigh, decodeOpcode_eq_none_iff]
    exact (or_iff_left (not_not_intro hhigh)).symm
  · rw [if_neg hhigh]
    exact iff_of_true rfl (.inr hhigh)

/-- A payload is missing exactly where fewer words remain than the packet, header included, has (R98). -/
theorem decodePayload_eq_none_iff (op : Opcode) (rest : List Word) :
    decodePayload op rest = none ↔ rest.length + 1 < op.words := by
  fun_cases decodePayload op rest with
  | case1 => simp [Opcode.words]
  | case2 _ hshort =>
    refine iff_of_true rfl (Nat.lt_of_not_le fun hlen => ?_)
    match rest, hlen, hshort with
    | ds0 :: ds1 :: ds2 :: ds3 :: p0 :: p1 :: p2 :: p3 :: ws, _, hshort =>
      exact hshort ds0 ds1 ds2 ds3 p0 p1 p2 p3 ws rfl
  | case3 => simp [Opcode.words]
  | case4 => simp [Opcode.words]
  | case5 _ hshort =>
    refine iff_of_true rfl (Nat.lt_of_not_le fun hlen => ?_)
    match rest, hlen, hshort with
    | w1 :: w2 :: w3 :: ws, _, hshort => exact hshort w1 w2 w3 ws rfl
  | case6 => simp [Opcode.words]
  | case7 => simp [Opcode.words]

theorem decode_of_illegal_header {h : Word} (rest : List Word) (hheader : decodeHeader h = none) :
    decode (h :: rest) = .error .illegalHeader := by
  rw [decode, hheader]

theorem decode_of_short_payload {h : Word} {op : Opcode} {rest : List Word}
    (hheader : decodeHeader h = some op) (hshort : rest.length + 1 < op.words) :
    decode (h :: rest) = .error .truncated := by
  have hpayload : decodePayload op rest = none := (decodePayload_eq_none_iff op rest).2 hshort
  simp only [decode, hheader, hpayload]

end Sys2Proof

namespace Sys2Proof.Machine

/-- A block that is not faulted, with an empty stage port, answers for a stream that gives no command
(40_fragment_pipeline_datapath.md R120). -/
theorem step_of_decode_error {s : State} {e : DecodeError} (hrun : s.faulted = false)
    (hport : s.stagePort = none) (hdecode : decode s.stream = .error e) : step s = s.noCommand e := by
  simp [step, hrun, hport, hdecode]

/-- Settles O7: the decoder rejects the header, and the step only raises ILLEGAL_COMMAND. -/
theorem illegalHeaderFaultsIllegalCommand : Obligations.IllegalHeaderFaultsIllegalCommand := by
  intro s h rest hrun hport hstream hillegal
  have hdecode := hstream ▸ decode_of_illegal_header rest ((decodeHeader_eq_none_iff h).2 hillegal)
  exact ⟨_, step_of_decode_error hrun hport hdecode, rfl⟩

/-- The three headers that a payload follows, with the packet lengths of 30_encoding.md R80. -/
theorem exists_opcode_of_payload_header {h : Word} {n : Nat}
    (hmem : (h, n) ∈ [((1 : Word), 9), (3, 4), (4, 2)]) :
    ∃ op : Opcode, decodeHeader h = some op ∧ op.words = n := by
  simp only [List.mem_cons, Prod.mk.injEq, List.not_mem_nil, or_false] at hmem
  obtain ⟨rfl, rfl⟩ | ⟨rfl, rfl⟩ | ⟨rfl, rfl⟩ := hmem
  · exact ⟨.frag, decodeHeader_frag, rfl⟩
  · exact ⟨.setXform, decodeHeader_setXform, rfl⟩
  · exact ⟨.vtxMap, decodeHeader_vtxMap, rfl⟩

/-- Settles O8: the decoder finds the header's packet cut short, and the step only raises
TRUNCATED_PACKET. -/
theorem shortPacketFaultsTruncatedPacket : Obligations.ShortPacketFaultsTruncatedPacket := by
  intro s h rest n hrun hport hstream hmem hshort
  obtain ⟨op, hheader, rfl⟩ := exists_opcode_of_payload_header hmem
  have hdecode := hstream ▸ decode_of_short_payload hheader (Nat.add_lt_of_lt_sub hshort)
  exact ⟨_, step_of_decode_error hrun hport hdecode, rfl⟩

end Sys2Proof.Machine
end

section
/-! PROOFS. BARRIER on a batch that is not hazard-free: what BATCH_HAZARD leaves in the store
(40_fragment_pipeline_datapath.md R122, 60_exceptions.md R255). -/

namespace Sys2Proof.Machine

/-- A byte outside the write sets reads after BATCH_HAZARD as before. -/
theorem readByte_hazardStore_other (draw : Nat) {p : Params} {m : Memory} {fs : List Frag} {c : Nat}
    (h : ∀ a v, (a, v) ∈ batchWrites p m fs → c ≠ a.cell ∧ c ≠ a.cell + 1) :
    Memory.readByte (hazardStore draw p m fs) c = m.readByte c :=
  readByte_foldl_writeWord _ (fun a => Config.hazardWord draw a.cell) m c fun w hw => h w.1 w.2 hw

theorem exec_barrier_of_hazard {s : State} (hhazard : hazardFree s.params s.store s.pending = false) :
    exec .barrier s = .next (s.raiseHazard (hazardStore s.draws s.params s.store s.pending)) := by
  rcases execBarrier_cases s with ⟨hfree, -⟩ | ⟨-, hexec⟩
  · rw [hhazard] at hfree
    cases hfree
  · exact hexec

/-- Settles O14: BARRIER raises BATCH_HAZARD with free words in the write sets, and every other byte of the
store is as before. -/
theorem barrierFaultsOnAHazard : Obligations.BarrierFaultsOnAHazard := by
  intro s hhazard
  refine ⟨_, exec_barrier_of_hazard hhazard, State.faulted_raiseHazard s _, State.code_raiseHazard s _,
    ?unwritten, rfl⟩
  intro c hother
  refine readByte_hazardStore_other s.draws fun a v hmem => ?_
  obtain ⟨f, hf, hwrite⟩ := mem_batchWrites_iff.1 hmem
  exact hother f hf a v hwrite

end Sys2Proof.Machine
end

section
/-! PROOFS. SET_XFORM with a zero width or height (60_exceptions.md R254). -/

namespace Sys2Proof.Machine

/-- Settles O21: the check of the two sizes is all that SET_XFORM does before it raises
DEGENERATE_TRANSFORM. -/
theorem zeroSizeFaultsDegenerateTransform : Obligations.ZeroSizeFaultsDegenerateTransform := by
  intro ox oy ax ay aw ah s hzero
  rcases execSetXform_cases ox oy ax ay aw ah s with ⟨hwidth, hheight, -⟩ | ⟨-, hexec⟩
  · exact absurd hzero (not_or.2 ⟨hwidth, hheight⟩)
  · exact hexec

end Sys2Proof.Machine
end

section
/-! PROOFS. The encoder and the decoder undo each other (30_encoding.md sections 1 to 3). The
concatenations here carry their widths as sums, which simp's index does not see: hence `simp -index`. -/

namespace Sys2Proof

/-! ### Decoding encoded words -/

theorem encodeHeader_frag : encodeHeader .frag = 1#32 := rfl
theorem encodeHeader_barrier : encodeHeader .barrier = 2#32 := rfl
theorem encodeHeader_setXform : encodeHeader .setXform = 3#32 := rfl
theorem encodeHeader_vtxMap : encodeHeader .vtxMap = 4#32 := rfl

@[simp] theorem decodeFrag_encode (f : Frag) (res : FragReserved) :
    decodeFrag (encodeDs0 f res) (encodeDs1 f res) (encodeDs2 f res) (encodeDs3 f res) (encodeP0 f) f.u f.v
      (encodeP3 f res) = f := by
  unfold decodeFrag field bitAt encodeDs0 encodeDs1 encodeDs2 encodeDs3 encodeP0 encodeP3
  simp -index only [BitVec.extractLsb'_append_eq_of_le, BitVec.extractLsb'_append_eq_right,
    BitVec.extractLsb'_eq_self, BitVec.getLsbD_append, BitVec.getLsbD_ofBool, Nat.reduceLeDiff, Nat.reduceSub,
    Nat.reduceLT, if_true, if_false, decide_true, Bool.true_and, decodeDepth_bits, decodeBlendMode_bits]

@[simp] theorem decodeReserved_encode (f : Frag) (res : FragReserved) :
    decodeReserved (encodeDs0 f res) (encodeDs1 f res) (encodeDs2 f res) (encodeDs3 f res)
      (encodeP3 f res) = res := by
  unfold decodeReserved field encodeDs0 encodeDs1 encodeDs2 encodeDs3 encodeP3
  simp -index only [BitVec.extractLsb'_append_eq_of_le, BitVec.extractLsb'_append_eq_right,
    BitVec.extractLsb'_eq_self, Nat.reduceLeDiff, Nat.reduceSub]

@[simp] theorem field_low_append (hi lo : BitVec 16) : field (hi ++ lo) 0 16 = lo :=
  BitVec.extractLsb'_append_eq_right

@[simp] theorem field_high_append (hi lo : BitVec 16) : field (hi ++ lo) 16 16 = hi :=
  BitVec.extractLsb'_append_eq_left

/-- Settles O1: one rule of the decoder per command, and the fields of the encoded words read back. -/
theorem decodeOfEncodedCommandIsTheCommand : Obligations.DecodeOfEncodedCommandIsTheCommand := by
  intro i rest hcommand
  cases i with
  | frag f res =>
    rw [encode, encodeHeader_frag]
    exact (decode_frag ..).trans (by rw [decodeFrag_encode, decodeReserved_encode]; rfl)
  | barrier => exact decode_barrier rest
  | setXform ox oy ax ay aw ah =>
    rw [encode, encodeHeader_setXform]
    exact (decode_setXform ..).trans (by simp only [field_low_append, field_high_append]; rfl)
  | vtxMap px py =>
    rw [encode, encodeHeader_vtxMap]
    exact (decode_vtxMap ..).trans (by rw [field_low_append, field_high_append]; rfl)
  | _ => cases hcommand

/-! ### Encoding decoded words -/

theorem ofBool_bitAt (w : Word) (i : Nat) : BitVec.ofBool (bitAt w i) = field w i 1 := by
  ext j hj
  obtain rfl : j = 0 := by omega
  simp [bitAt, field]

/-- Two fields side by side are one field. -/
theorem field_append_field (w : Word) {lo hi n k : Nat} (h : hi = lo + n) :
    field w hi k ++ field w lo n = field w lo (k + n) :=
  BitVec.extractLsb'_append_extractLsb'_eq_extractLsb' h

@[simp] theorem field_whole (w : Word) : field w 0 32 = w := BitVec.extractLsb'_eq_self

/-- Every bit of a FRAG packet is a bit of a field, reserved ones included. -/
theorem encode_frag_decode (ds0 ds1 ds2 ds3 p0 p1 p2 p3 : Word) :
    encode (.frag (decodeFrag ds0 ds1 ds2 ds3 p0 p1 p2 p3) (decodeReserved ds0 ds1 ds2 ds3 p3)) =
      [1#32, ds0, ds1, ds2, ds3, p0, p1, p2, p3] := by
  simp only [encode, encodeHeader_frag, encodeDs0, encodeDs1, encodeDs2, encodeDs3, encodeP0, encodeP3,
    decodeFrag, decodeReserved, bits_decodeDepth, bits_decodeBlendMode, ofBool_bitAt]
  simp -index only [field_append_field, Nat.reduceAdd, field_whole]

theorem encode_setXform_fields (w1 w2 w3 : Word) :
    encode (.setXform (field w1 0 16) (field w1 16 16) (field w2 0 16) (field w2 16 16)
      (field w3 0 16) (field w3 16 16)) = [3#32, w1, w2, w3] := by
  simp only [encode, encodeHeader_setXform, Machine.field_high_append_field_low]

theorem encode_vtxMap_fields (w1 : Word) :
    encode (.vtxMap (field w1 0 16) (field w1 16 16)) = [4#32, w1] := by
  simp only [encode, encodeHeader_vtxMap, Machine.field_high_append_field_low]

/-- The inverse of `decodeOpcode` is `Opcode.bits` (R82). -/
theorem bits_of_decodeOpcode {opc : BitVec 4} {op : Opcode} (h : decodeOpcode opc = some op) :
    op.bits = opc := by
  revert opc
  cases op <;> decide

theorem eq_encodeHeader_of_decodeHeader {h : Word} {op : Opcode} (hheader : decodeHeader h = some op) :
    h = encodeHeader op := by
  unfold decodeHeader at hheader
  split at hheader
  next hhigh =>
    rw [encodeHeader, bits_of_decodeOpcode hheader, ← hhigh]
    exact (field_whole h).symm.trans (field_append_field h (Nat.zero_add 4).symm).symm
  next => cases hheader

/-- The four packets that the decoder accepts. -/
theorem decode_command_cases {ws : List Word} {i : Instr} {rest : List Word}
    (h : decode ws = .command i rest) :
    (∃ ds0 ds1 ds2 ds3 p0 p1 p2 p3,
      i = .frag (decodeFrag ds0 ds1 ds2 ds3 p0 p1 p2 p3) (decodeReserved ds0 ds1 ds2 ds3 p3) ∧
      ws = 1#32 :: ds0 :: ds1 :: ds2 :: ds3 :: p0 :: p1 :: p2 :: p3 :: rest) ∨
    (i = .barrier ∧ ws = 2#32 :: rest) ∨
    (∃ w1 w2 w3, i = .setXform (field w1 0 16) (field w1 16 16) (field w2 0 16) (field w2 16 16)
        (field w3 0 16) (field w3 16 16) ∧ ws = 3#32 :: w1 :: w2 :: w3 :: rest) ∨
    (∃ w1, i = .vtxMap (field w1 0 16) (field w1 16 16) ∧ ws = 4#32 :: w1 :: rest) := by
  unfold decode at h
  split at h
  next => cases h
  next hd tl =>
    split at h
    next => cases h
    next op hheader =>
      obtain rfl := eq_encodeHeader_of_decodeHeader hheader
      split at h
      next => cases h
      next j rest' hpayload =>
        cases h
        revert hpayload
        fun_cases decodePayload op tl with
        | case1 => rintro ⟨⟩; exact .inl ⟨_, _, _, _, _, _, _, _, rfl, rfl⟩
        | case3 => rintro ⟨⟩; exact .inr (.inl ⟨rfl, rfl⟩)
        | case4 => rintro ⟨⟩; exact .inr (.inr (.inl ⟨_, _, _, rfl, rfl⟩))
        | case6 => rintro ⟨⟩; exact .inr (.inr (.inr ⟨_, rfl, rfl⟩))
        | _ => rintro ⟨⟩

/-- Settles O2: each of the four accepted packets is the encoding of its command. -/
theorem decodedPacketIsTheEncodingOfItsCommand : Obligations.DecodedPacketIsTheEncodingOfItsCommand := by
  intro ws i rest hdecode
  obtain ⟨ds0, ds1, ds2, ds3, p0, p1, p2, p3, rfl, rfl⟩ | ⟨rfl, rfl⟩ | ⟨w1, w2, w3, rfl, rfl⟩ |
    ⟨w1, rfl, rfl⟩ := decode_command_cases hdecode
  · exact ⟨rfl, by rw [encode_frag_decode]; rfl⟩
  · exact ⟨rfl, rfl⟩
  · exact ⟨rfl, by rw [encode_setXform_fields]; rfl⟩
  · exact ⟨rfl, by rw [encode_vtxMap_fields]; rfl⟩

/-- Settles O3: the decoder runs on the printed words. -/
theorem printedPacketsDecodeToTheirFields : Obligations.PrintedPacketsDecodeToTheirFields := by
  unfold Obligations.PrintedPacketsDecodeToTheirFields
  decide

end Sys2Proof
end

section
/-! PROOFS. The selector table of 30_encoding.md R95, group by group, and the stages that a fragment's fields
select. -/

namespace Sys2Proof

/-! ### The stages of a fragment, one definition per group -/

/-- The texture-source selector of a depth mode. -/
def depthOp : Depth → StageOp
  | .bpp4 => .tex4bpp
  | .bpp8 => .tex8bpp
  | .direct => .tex15bpp
  | .rsvd => .texRsvd

/-- The compositing selector of a blend mode. -/
def blendOp : BlendMode → StageOp
  | .avg => .blendAvg
  | .add => .blendAdd
  | .sub => .blendSub
  | .qadd => .blendQadd

/-- The texture source and, for a textured fragment, the modulation. -/
def textureOps (tex tbl : Bool) (d : Depth) : List StageOp :=
  if tex then [depthOp d, if tbl then .modBlend else .modRaw] else [.texNone]

def ditherOps (dth : Bool) : List StageOp := [if dth then .ditherOn else .ditherOff]

def blendOps (ste : Bool) (bm : BlendMode) : List StageOp := [if ste then blendOp bm else .blendNone]

theorem stageOps_eq (f : Frag) :
    Machine.stageOps f =
      ditherOps f.dth ++ textureOps f.tex f.tbl f.depth ++ blendOps f.ste f.bm ++
        [StageOp.outFormat] := by
  unfold Machine.stageOps textureOps blendOps
  cases f.depth <;> cases f.bm <;> rfl

/-! ### The rows that apply -/

/-- The selectors of those of the given rows that apply. -/
def selectedFrom (rows : List SelectorRow) (w : Word) : List StageOp :=
  (rows.filter (·.applies w)).map (·.op)

/-- Rows whose masks lie within `m` do not see the other bits of DS0. -/
theorem selectedFrom_and {rows : List SelectorRow} {m : Word} (w : Word)
    (hmask : ∀ r ∈ rows, m &&& r.mask = r.mask) : selectedFrom rows (w &&& m) = selectedFrom rows w := by
  have happlies : ∀ r ∈ rows, r.applies (w &&& m) = r.applies w := fun r hr => by
    rw [SelectorRow.applies, SelectorRow.applies, BitVec.and_assoc, hmask r hr]
  rw [selectedFrom, selectedFrom, List.filter_congr happlies]

/-- The rows of the texture sources and of the modulations. -/
def textureRows : List SelectorRow := selectorRows.take 7
def ditherRows : List SelectorRow := (selectorRows.drop 7).take 2
def blendRows : List SelectorRow := (selectorRows.drop 9).take 5

theorem selectedOps_eq (w : Word) :
    selectedOps w =
      selectedFrom textureRows w ++ selectedFrom ditherRows w ++ selectedFrom blendRows w ++
        [StageOp.outFormat] := by
  have hrows : selectorRows = textureRows ++ ditherRows ++ blendRows ++
      [(⟨.outFormat, 0x000, 0x000⟩ : SelectorRow)] := rfl
  have hout : selectedFrom [⟨.outFormat, 0x000, 0x000⟩] w = [.outFormat] := by
    simp [selectedFrom, SelectorRow.applies]
  rw [← hout]
  simp only [selectedOps, hrows, List.filter_append, List.map_append, selectedFrom]

/-- A mask of `n` ones from bit `lo` on keeps the field that stands there. -/
theorem and_ones_eq_field (w : Word) (lo n : Nat) :
    w &&& ((BitVec.allOnes n).setWidth 32 <<< lo) = (field w lo n).setWidth 32 <<< lo := by
  ext i hi
  by_cases hlo : i < lo
  · simp [hlo]
  · have hback : lo + (i - lo) = i := by omega
    simp [hlo, field, hback, BitVec.getLsbD_eq_getElem hi, Bool.and_comm]

/-- Rows whose masks lie within one field are told by that field. -/
theorem selectedFrom_eq_of_field {rows : List SelectorRow} (w : Word) (lo n : Nat)
    (hmask : ∀ r ∈ rows, (BitVec.allOnes n).setWidth 32 <<< lo &&& r.mask = r.mask) :
    selectedFrom rows w = selectedFrom rows ((field w lo n).setWidth 32 <<< lo) := by
  rw [← and_ones_eq_field, selectedFrom_and w hmask]

theorem field_of_field (w : Word) {lo n i k : Nat} (h : i + k ≤ n) :
    (field w lo n).extractLsb' i k = field w (lo + i) k := by
  ext j hj
  have hin : i + j < n := by omega
  simp [field, hin, Nat.add_assoc]

theorem selectedFrom_textureRows (w : Word) :
    selectedFrom textureRows w = textureOps (bitAt w 0) (bitAt w 1) (decodeDepth (field w 2 2)) := by
  have hrows : ∀ b : BitVec 4, selectedFrom textureRows (b.setWidth 32 <<< 0) =
      textureOps (b.getLsbD 0) (b.getLsbD 1) (decodeDepth (b.extractLsb' 2 2)) := by decide
  rw [selectedFrom_eq_of_field w 0 4 (by decide), hrows, field_of_field w (by decide)]
  simp [field, bitAt]

theorem selectedFrom_ditherRows (w : Word) :
    selectedFrom ditherRows w = ditherOps (bitAt w 6) := by
  have hrows : ∀ b : BitVec 1, selectedFrom ditherRows (b.setWidth 32 <<< 6) = ditherOps (b.getLsbD 0) := by
    decide
  rw [selectedFrom_eq_of_field w 6 1 (by decide), hrows]
  simp [field, bitAt]

theorem selectedFrom_blendRows (w : Word) :
    selectedFrom blendRows w = blendOps (bitAt w 7) (decodeBlendMode (field w 8 2)) := by
  have hrows : ∀ b : BitVec 3, selectedFrom blendRows (b.setWidth 32 <<< 7) =
      blendOps (b.getLsbD 0) (decodeBlendMode (b.extractLsb' 1 2)) := by decide
  rw [selectedFrom_eq_of_field w 7 3 (by decide), hrows, field_of_field w (by decide)]
  simp [field, bitAt]

/-- The rows that a DS0 word matches are the stages that its fields select; the two lists differ in where
dithering stands. -/
theorem selectedOps_perm_stageOps (ds0 ds1 ds2 ds3 p0 p1 p2 p3 : Word) :
    (selectedOps ds0).Perm (Machine.stageOps (decodeFrag ds0 ds1 ds2 ds3 p0 p1 p2 p3)) := by
  rw [selectedOps_eq, stageOps_eq, selectedFrom_textureRows, selectedFrom_ditherRows, selectedFrom_blendRows]
  exact (List.perm_append_comm.append_right _).append_right _

/-! ### One row of each group -/

/-- The first row of a selector's group in the table. -/
def StageOp.groupHead : StageOp → StageOp
  | .texNone => .texNone
  | .tex4bpp => .texNone
  | .tex8bpp => .texNone
  | .tex15bpp => .texNone
  | .texRsvd => .texNone
  | .modRaw => .modRaw
  | .modBlend => .modRaw
  | .ditherOff => .ditherOff
  | .ditherOn => .ditherOff
  | .blendNone => .blendNone
  | .blendAvg => .blendNone
  | .blendAdd => .blendNone
  | .blendSub => .blendNone
  | .blendQadd => .blendNone
  | .outFormat => .outFormat

/-- The groups that take part in a fragment's evaluation, modulation only in that of a textured one. -/
def groupHeads (tex : Bool) : List StageOp :=
  [StageOp.ditherOff, StageOp.texNone] ++ (if tex then [StageOp.modRaw] else []) ++
    [StageOp.blendNone, StageOp.outFormat]

theorem map_groupHead_stageOps (f : Frag) :
    (Machine.stageOps f).map StageOp.groupHead = groupHeads f.tex := by
  have hdither : (ditherOps f.dth).map StageOp.groupHead = [.ditherOff] := by cases f.dth <;> rfl
  have htexture : (textureOps f.tex f.tbl f.depth).map StageOp.groupHead =
      .texNone :: if f.tex then [.modRaw] else [] := by
    cases f.tex
    · rfl
    · cases f.tbl <;> cases f.depth <;> rfl
  have hblend : (blendOps f.ste f.bm).map StageOp.groupHead = [.blendNone] := by
    cases f.ste
    · rfl
    · cases f.bm <;> rfl
  rw [stageOps_eq, List.map_append, List.map_append, List.map_append, hdither, htexture, hblend]
  cases f.tex <;> rfl

theorem countP_mem_group {group : List StageOp} {head : StageOp} (ops : List StageOp)
    (hgroup : ∀ op, op ∈ group ↔ op.groupHead = head) :
    ops.countP (· ∈ group) = (ops.map StageOp.groupHead).count head := by
  simp only [hgroup, List.count, List.countP_map]
  rfl

/-- Settles O4: the selected rows are the stages of a fragment with these fields, which has one of each
group. -/
theorem eachGroupSelectsExactlyOneRow : Obligations.EachGroupSelectsExactlyOneRow := by
  intro ds0
  have hperm := selectedOps_perm_stageOps ds0 0 0 0 0 0 0 0
  have hcount : ∀ (group : List StageOp) (head : StageOp), (∀ op, op ∈ group ↔ op.groupHead = head) →
      (selectedOps ds0).countP (· ∈ group) =
        (groupHeads (ds0.getLsbD 0)).count head := fun group head hgroup => by
    rw [hperm.countP_eq, countP_mem_group _ hgroup, map_groupHead_stageOps]
    rfl
  refine ⟨?_, ?_, ?_, ?_, ?_⟩
  · rw [hcount _ .texNone (by rintro ⟨⟩ <;> decide)]
    cases ds0.getLsbD 0 <;> rfl
  · rw [hcount _ .modRaw (by rintro ⟨⟩ <;> decide)]
    cases ds0.getLsbD 0 <;> rfl
  · rw [hcount _ .ditherOff (by rintro ⟨⟩ <;> decide)]
    cases ds0.getLsbD 0 <;> rfl
  · rw [hcount _ .blendNone (by rintro ⟨⟩ <;> decide)]
    cases ds0.getLsbD 0 <;> rfl
  · rw [hcount _ .outFormat (by rintro ⟨⟩ <;> decide)]
    cases ds0.getLsbD 0 <;> rfl

/-- Settles O5: the fields are those that the encoded DS0 decodes to. -/
theorem stagesOfFieldsAreTheRowsOfDs0 : Obligations.StagesOfFieldsAreTheRowsOfDs0 := by
  intro f res op
  have hperm := selectedOps_perm_stageOps (encodeDs0 f res) (encodeDs1 f res) (encodeDs2 f res)
    (encodeDs3 f res) (encodeP0 f) f.u f.v (encodeP3 f res)
  rw [decodeFrag_encode] at hperm
  exact hperm.mem_iff.symm

end Sys2Proof
end

section
/-! PROOFS. What an instruction can do to the state, as an inductive relation, and what every step keeps
(10_state.md, 40_fragment_pipeline_datapath.md section 1). -/

namespace Sys2Proof.Machine

/-! ### Everything an instruction can do -/

/-- The states that an instruction can answer, one constructor per way to answer. -/
inductive Effect (s : State) : Instr → State → Prop
  | pend (f : Frag) {res : FragReserved} (hclear : reservedBitSet res = false) :
    Effect s (.frag f res) (s.addPending f)
  | malformed (f : Frag) {res : FragReserved} (hset : reservedBitSet res = true) :
    Effect s (.frag f res) (s.raise .malformedOperand)
  | perform (hfree : hazardFree s.params s.store s.pending = true) :
    Effect s .barrier (s.closeBatch (performBatch s.draws s.params s.store s.pending))
  | hazard (hhazard : hazardFree s.params s.store s.pending = false) :
    Effect s .barrier (s.raiseHazard (hazardStore s.draws s.params s.store s.pending))
  | load (ox oy ax ay : BitVec 16) {aw ah : BitVec 16} (hwidth : aw ≠ 0) (hheight : ah ≠ 0) :
    Effect s (.setXform ox oy ax ay aw ah) (s.setXform (oy ++ ox) (ay ++ ax) (ah ++ aw))
  | degenerate (ox oy ax ay : BitVec 16) {aw ah : BitVec 16} (hzero : aw = 0 ∨ ah = 0) :
    Effect s (.setXform ox oy ax ay aw ah) (s.raise .degenerateTransform)
  | emit (px py : BitVec 16) :
    Effect s (.vtxMap px py) (s.emitNdc (ndcAxis px s.ox s.ax s.aw, ndcAxis py s.oy s.ay s.ah))
  | stage {i : Instr} (hstage : i.isCommand = false) (dp : Datapath) : Effect s i (s.withDp dp)

theorem effect_of_exec {i : Instr} {s t : State} (h : exec i s = .next t) : Effect s i t := by
  cases i with
  | frag f res =>
    rcases execFrag_cases f res s with ⟨hclear, hexec⟩ | ⟨hset, hexec⟩ <;> cases hexec.symm.trans h
    · exact .pend f hclear
    · exact .malformed f hset
  | barrier =>
    rcases execBarrier_cases s with ⟨hfree, hexec⟩ | ⟨hhazard, hexec⟩ <;> cases hexec.symm.trans h
    · exact .perform hfree
    · exact .hazard hhazard
  | setXform ox oy ax ay aw ah =>
    rcases execSetXform_cases ox oy ax ay aw ah s with ⟨hwidth, hheight, hexec⟩ | ⟨hzero, hexec⟩ <;>
      cases hexec.symm.trans h
    · exact .load ox oy ax ay hwidth hheight
    · exact .degenerate ox oy ax ay hzero
  | vtxMap px py => cases h; exact .emit px py
  | _ => cases h; exact .stage rfl _

/-! ### The invariant -/

theorem FaultCode.bits_ne_zero (c : FaultCode) : c.bits ≠ 0 := by cases c <;> decide

theorem FaultCode.bits_le_five (c : FaultCode) : c.bits.toNat ≤ 5 := by cases c <;> decide

namespace State.Inv

variable {s : State}

/-- The invariant sees four fields of the state only. -/
theorem of_eq {t : State} (h : s.Inv) (hstore : t.store = s.store) (hsize : t.xformSize = s.xformSize)
    (hcode : t.code = s.code) (hfaulted : t.faulted = s.faulted) : t.Inv := by
  obtain ⟨hwf, hwidth, hheight, hiff, hlegal⟩ := h
  refine ⟨hstore ▸ hwf, ?_, ?_, ?_, hcode ▸ hlegal⟩
  · rwa [State.aw, hsize]
  · rwa [State.ah, hsize]
  · rwa [hcode, hfaulted]

theorem raise (h : s.Inv) (c : FaultCode) : (s.raise c).Inv where
  store_wf := h.store_wf
  width_ne_zero := h.width_ne_zero
  height_ne_zero := h.height_ne_zero
  code_iff_faulted := iff_of_true c.bits_ne_zero rfl
  code_legal := c.bits_le_five

theorem closeBatch (h : s.Inv) {m : Memory} (hwf : m.wf) : (s.closeBatch m).Inv where
  store_wf := hwf
  width_ne_zero := h.width_ne_zero
  height_ne_zero := h.height_ne_zero
  code_iff_faulted := h.code_iff_faulted
  code_legal := h.code_legal

theorem raiseHazard (h : s.Inv) {m : Memory} (hwf : m.wf) : (s.raiseHazard m).Inv where
  store_wf := hwf
  width_ne_zero := h.width_ne_zero
  height_ne_zero := h.height_ne_zero
  code_iff_faulted := iff_of_true (FaultCode.bits_ne_zero .batchHazard) rfl
  code_legal := FaultCode.bits_le_five .batchHazard

theorem setXform (h : s.Inv) (offset origin : BitVec 32) {aw ah : BitVec 16} (hwidth : aw ≠ 0)
    (hheight : ah ≠ 0) : (s.setXform offset origin (ah ++ aw)).Inv where
  store_wf := h.store_wf
  width_ne_zero := by rwa [State.aw, State.xformSize_setXform, field_low_append]
  height_ne_zero := by rwa [State.ah, State.xformSize_setXform, field_high_append]
  code_iff_faulted := h.code_iff_faulted
  code_legal := h.code_legal

theorem effect (h : s.Inv) {i : Instr} {t : State} (heffect : Effect s i t) : t.Inv := by
  cases heffect with
  | pend f => exact h.of_eq rfl rfl rfl rfl
  | malformed => exact h.raise _
  | perform => exact h.closeBatch (performBatch_keeps_wf _ _ _ _ h.store_wf)
  | hazard => exact h.raiseHazard (hazardStore_keeps_wf _ _ _ _ h.store_wf)
  | load _ _ _ _ hwidth hheight => exact h.setXform _ _ hwidth hheight
  | degenerate => exact h.raise _
  | emit => exact h.of_eq rfl rfl rfl rfl
  | stage => exact h.of_eq rfl rfl rfl rfl

end State.Inv

/-- Settles O48: no way to answer a next state, by an instruction or by a fault on a header, breaks the
invariant. -/
theorem stepKeepsTheInvariant : Obligations.StepKeepsTheInvariant := by
  intro s t hinv hstep
  have hconsumed : ∀ n rest, (s.consume n rest).Inv := fun _ _ => hinv.of_eq rfl rfl rfl rfl
  obtain ⟨-, ⟨op, dp, -, rfl⟩ | ⟨-, i, rest, -, hexec⟩ | ⟨-, -, rfl⟩ | ⟨-, -, rfl⟩⟩ := step_cases hstep
  · exact hinv.of_eq rfl rfl rfl rfl
  · exact (hconsumed _ _).effect (effect_of_exec hexec)
  · exact (hconsumed _ _).raise _
  · exact (hconsumed _ _).raise _

/-- Settles O47: the reset state has no store cell, the reset size and no fault. -/
theorem resetStateMeetsTheInvariant : Obligations.ResetStateMeetsTheInvariant where
  store_wf := ⟨List.Pairwise.nil, fun _ hc => absurd hc List.not_mem_nil⟩
  width_ne_zero := by decide
  height_ne_zero := by decide
  code_iff_faulted := by decide
  code_legal := by decide

end Sys2Proof.Machine
end

section
/-! PROOFS. One rule per command where its operands are legal, a step at the stream and at the stage port
(40_fragment_pipeline_datapath.md sections 1, 2, 3 and 5). -/

namespace Sys2Proof.Machine

theorem exec_frag_of_clear (f : Frag) {res : FragReserved} (s : State) (hclear : reservedBitSet res = false) :
    exec (.frag f res) s = .next (s.addPending f) := by
  rcases execFrag_cases f res s with ⟨-, hexec⟩ | ⟨hset, -⟩
  · exact hexec
  · rw [hclear] at hset
    cases hset

theorem exec_setXform_of_ne_zero (ox oy ax ay : BitVec 16) {aw ah : BitVec 16} (s : State) (hwidth : aw ≠ 0)
    (hheight : ah ≠ 0) :
    exec (.setXform ox oy ax ay aw ah) s = .next (s.setXform (oy ++ ox) (ay ++ ax) (ah ++ aw)) := by
  rcases execSetXform_cases ox oy ax ay aw ah s with ⟨-, -, hexec⟩ | ⟨hzero, -⟩
  · exact hexec
  · exact absurd hzero (not_or.2 ⟨hwidth, hheight⟩)

/-- Settles O12: the record joins PENDING, and PEND follows PENDING. -/
theorem legalFragJoinsPending : Obligations.LegalFragJoinsPending := by
  intro f s
  have hexec : exec (.frag f FragReserved.clear) s = .next (s.addPending f) :=
    exec_frag_of_clear f s (by decide)
  refine ⟨hexec, fun t ht => ?_⟩
  cases hexec.symm.trans ht
  rw [status_pend_bit, pend_eq_true_iff, State.pending_addPending]
  exact List.append_ne_nil_of_right_ne_nil _ (List.cons_ne_nil f [])

/-- Settles O15: a batch with no fragment is hazard-free, writes nothing and draws no free value. -/
theorem barrierOfAnEmptyBatchDoesNothing : Obligations.BarrierOfAnEmptyBatchDoesNothing := by
  intro s hempty
  have hfree : hazardFree s.params s.store s.pending = true := by rw [hempty]; rfl
  have hclosed : s.closeBatch s.store = s := by
    simp only [State.closeBatch, hempty, List.isEmpty_nil, if_true]
    rw [← hempty]
  rw [exec_barrier_of_hazardFree hfree, hempty, performBatch_nil, hclosed]

/-- Settles O20: the registers hold the halves of the operands. -/
theorem setXformLoadsTheTransform : Obligations.SetXformLoadsTheTransform := by
  intro ox oy ax ay aw ah s hwidth hheight
  refine ⟨_, exec_setXform_of_ne_zero ox oy ax ay s hwidth hheight, ?_, ?_, ?_, ?_, ?_, ?_, rfl⟩
  · exact field_low_append oy ox
  · exact field_high_append oy ox
  · exact field_low_append ay ax
  · exact field_high_append ay ax
  · exact field_low_append ah aw
  · exact field_high_append ah aw

/-- Settles O23: VTX_MAP emits `ndcAxis` of each axis, whose sum of integers is the sum of their rationals. -/
theorem vtxMapEmitsTheNormalisedPosition : Obligations.VtxMapEmitsTheNormalisedPosition := by
  intro px py s _ _
  have haxis : ∀ pos offset origin size : BitVec 16, ndcAxis pos offset origin size =
      ((pos.toInt : Rat) + offset.toInt - origin.toInt) / size.toNat * 2 - 1 := fun _ _ _ _ => by
    simp only [ndcAxis, Int.cast_sub, Int.cast_add]
  rw [exec_vtxMap, haxis, haxis]
  rfl

/-! ### Steps -/

theorem step_of_stagePort {s : State} {op : StageOp} (hrun : s.faulted = false)
    (hport : s.stagePort = some op) : step s = exec op.toInstr { s with stagePort := none } := by
  simp [step, hrun, hport]

theorem step_of_faulted {s : State} (hfaulted : s.faulted = true) : step s = .fault .halted := by
  simp [step, hfaulted]

theorem step_of_stream_nil {s : State} (hrun : s.faulted = false) (hport : s.stagePort = none)
    (hstream : s.stream = []) : step s = .fault .endOfInput :=
  step_of_decode_error (e := .endOfInput) hrun hport (by rw [hstream, decode_nil])

/-- Settles O6: the words taken off the stream are the encoding of the command that it decodes to. -/
theorem stepRunsTheDecodedInstruction : Obligations.StepRunsTheDecodedInstruction := by
  intro s hrun
  refine ⟨fun i rest hport hdecode => ?_, fun op hport => step_of_stagePort hrun hport⟩
  obtain ⟨-, hstream⟩ := decodedPacketIsTheEncodingOfItsCommand s.stream i rest hdecode
  have hlength : s.stream.length - rest.length = (encode i).length := by
    rw [hstream, List.length_append, Nat.add_sub_cancel]
  rw [step_of_decode_command hrun hport hdecode, hlength]
  rfl

/-- Settles O10: the two states in which the block has no step. -/
theorem faultedOrIdleBlockHasNoStep : Obligations.FaultedOrIdleBlockHasNoStep :=
  ⟨fun _ hfaulted => step_of_faulted hfaulted,
   fun _ hrun hport hstream => step_of_stream_nil hrun hport hstream⟩

end Sys2Proof.Machine
end

section
/-! PROOFS. What a step leaves unchanged: each register with the one command that writes it (10_state.md,
40_fragment_pipeline_datapath.md sections 1 to 5). -/

namespace Sys2Proof.Machine

/-! ### The fields that an instruction writes -/

section

variable {s t : State} {i : Instr}

theorem store_of_effect (h : Effect s i t) : i = .barrier ∨ t.store = s.store := by
  cases h with
  | perform | hazard => exact .inl rfl
  | _ => exact .inr rfl

theorem xform_of_effect (h : Effect s i t) :
    (∃ ox oy ax ay aw ah, i = .setXform ox oy ax ay aw ah ∧
      t.xformOffset = oy ++ ox ∧ t.xformOrigin = ay ++ ax ∧ t.xformSize = ah ++ aw) ∨
    (t.xformOffset = s.xformOffset ∧ t.xformOrigin = s.xformOrigin ∧ t.xformSize = s.xformSize) := by
  cases h with
  | load => exact .inl ⟨_, _, _, _, _, _, rfl, rfl, rfl, rfl⟩
  | _ => exact .inr ⟨rfl, rfl, rfl⟩

theorem ndcOut_of_effect (h : Effect s i t) : (∃ px py, i = .vtxMap px py) ∨ t.ndcOut = s.ndcOut := by
  cases h with
  | emit px py => exact .inl ⟨px, py, rfl⟩
  | _ => exact .inr rfl

theorem FaultCode.bits_mem (c : FaultCode) : c.bits ∈ [(1 : BitVec 4), 2, 3, 4, 5] := by cases c <;> decide

theorem status_of_effect (h : Effect s i t) :
    (t.faulted = s.faulted ∧ t.code = s.code) ∨ ∃ c : FaultCode, t.faulted = true ∧ t.code = c.bits := by
  cases h with
  | malformed => exact .inr ⟨.malformedOperand, rfl, rfl⟩
  | hazard => exact .inr ⟨.batchHazard, rfl, rfl⟩
  | degenerate => exact .inr ⟨.degenerateTransform, rfl, rfl⟩
  | _ => exact .inl ⟨rfl, rfl⟩

theorem pending_of_effect (h : Effect s i t) :
    (∃ f res, i = .frag f res ∧ t.pending = s.pending ++ [f]) ∨ (i = .barrier ∧ t.pending = []) ∨
    t.pending = s.pending := by
  cases h with
  | pend => exact .inl ⟨_, _, rfl, rfl⟩
  | perform => exact .inr (.inl ⟨rfl, rfl⟩)
  | _ => exact .inr (.inr rfl)

theorem params_of_effect (h : Effect s i t) : t.params = s.params := by
  cases h <;> rfl

theorem stagePort_of_effect (h : Effect s i t) : t.stagePort = s.stagePort := by
  cases h <;> rfl

/-! ### The fields that a step writes -/

/-- A step applies a stage selector, has the effect of the command whose encoding stands at the front of the
stream, or faults on a header. -/
theorem step_effect (h : step s = .next t) :
    (s.stagePort ≠ none ∧ ∃ dp, t = { s with stagePort := none, dp := dp }) ∨
    (s.stagePort = none ∧ ∃ i rest n, s.stream = encode i ++ rest ∧ Effect (s.consume n rest) i t) ∨
    (s.stagePort = none ∧ ∃ c, t = (s.consume 1 s.stream.tail).raise c) := by
  obtain ⟨-, ⟨op, dp, hport, rfl⟩ | ⟨hport, i, rest, hdecode, hexec⟩ | ⟨hport, -, rfl⟩ | ⟨hport, -, rfl⟩⟩ :=
    step_cases h
  · exact .inl ⟨by rw [hport]; exact Option.some_ne_none op, dp, rfl⟩
  · exact .inr (.inl ⟨hport, i, rest, _, (decodedPacketIsTheEncodingOfItsCommand _ _ _ hdecode).2,
      effect_of_exec hexec⟩)
  · exact .inr (.inr ⟨hport, _, rfl⟩)
  · exact .inr (.inr ⟨hport, _, rfl⟩)

end

/-- Settles O49: of all effects only the two of BARRIER write the store. -/
theorem onlyBarrierChangesTheStore : Obligations.OnlyBarrierChangesTheStore := by
  intro s t hstep ⟨c, hc⟩
  have hstore : t.store ≠ s.store := fun h => hc (by rw [h])
  obtain ⟨-, dp, rfl⟩ | ⟨-, i, rest, n, hstream, heffect⟩ | ⟨-, c, rfl⟩ := step_effect hstep
  · exact absurd rfl hstore
  · obtain rfl | hsame := store_of_effect heffect
    · exact ⟨rest, hstream⟩
    · exact absurd hsame hstore
  · exact absurd rfl hstore

/-- Settles O50: of all effects only the load of SET_XFORM writes the three registers. -/
theorem onlySetXformWritesXform : Obligations.OnlySetXformWritesXform := by
  intro s t hstep hchange
  obtain ⟨-, dp, rfl⟩ | ⟨-, i, rest, n, hstream, heffect⟩ | ⟨-, c, rfl⟩ := step_effect hstep
  · simp at hchange
  · obtain ⟨ox, oy, ax, ay, aw, ah, rfl, hoffset, horigin, hsize⟩ | ⟨hoffset, horigin, hsize⟩ :=
      xform_of_effect heffect
    · exact ⟨_, _, _, rest, hstream, hoffset, horigin, hsize⟩
    · simp [hoffset, horigin, hsize] at hchange
  · simp at hchange

/-- Settles O51: with a VTX_MAP packet at the front the step emits its value; without one no effect that the
step can have emits any. -/
theorem ndcOutCarriesOneValuePerVtxMap : Obligations.NdcOutCarriesOneValuePerVtxMap := by
  intro s t hstep
  by_cases hvtx : s.stagePort = none ∧ ∃ w rest, s.stream = 4 :: w :: rest
  · obtain ⟨hport, w, rest, hstream⟩ := hvtx
    obtain ⟨hrun, -⟩ := step_cases hstep
    have hdecode := hstream ▸ decode_vtxMap w rest
    cases (step_of_decode_command hrun hport hdecode).symm.trans hstep
    exact .inl ⟨hport, ⟨w, rest, hstream⟩, _, rfl⟩
  · refine .inr ⟨hvtx, ?_⟩
    obtain ⟨-, dp, rfl⟩ | ⟨hport, i, rest, n, hstream, heffect⟩ | ⟨-, c, rfl⟩ := step_effect hstep
    · rfl
    · obtain ⟨px, py, rfl⟩ | hsame := ndcOut_of_effect heffect
      · exact absurd ⟨hport, _, rest, hstream⟩ hvtx
      · exact hsame
    · rfl

/-- Settles O52: STATUS is written by the effects that raise a fault, whose codes are 1 to 5. -/
theorem onlyAFaultWritesCodeAndFaulted : Obligations.OnlyAFaultWritesCodeAndFaulted := by
  intro s t hstep
  obtain ⟨-, dp, rfl⟩ | ⟨-, i, rest, n, -, heffect⟩ | ⟨-, c, rfl⟩ := step_effect hstep
  · exact .inl ⟨rfl, rfl⟩
  · obtain hsame | ⟨c, hfaulted, hcode⟩ := status_of_effect heffect
    · exact .inl hsame
    · exact .inr ⟨hfaulted, hcode ▸ c.bits_mem⟩
  · exact .inr ⟨rfl, c.bits_mem⟩

/-- Settles O53: PENDING is written by a legal FRAG and by a BARRIER that performs its batch. -/
theorem pendingGrowsByFragAndEmptiesByBarrier : Obligations.PendingGrowsByFragAndEmptiesByBarrier := by
  intro s t hstep hchange
  obtain ⟨-, dp, rfl⟩ | ⟨-, i, rest, n, hstream, heffect⟩ | ⟨-, c, rfl⟩ := step_effect hstep
  · exact absurd rfl hchange
  · obtain ⟨f, res, rfl, hgrown⟩ | ⟨rfl, hempty⟩ | hsame := pending_of_effect heffect
    · exact .inl ⟨⟨_, hstream⟩, f, hgrown⟩
    · exact .inr ⟨⟨_, hstream⟩, hempty⟩
    · exact absurd hsame hchange
  · exact absurd rfl hchange

/-- Settles O55: no effect writes the parameters or the stage port, and a selector that ran has left the
port. -/
theorem stepKeepsTheParameters : Obligations.StepKeepsTheParameters := by
  intro s t hstep
  obtain ⟨-, dp, rfl⟩ | ⟨hport, i, rest, n, -, heffect⟩ | ⟨hport, c, rfl⟩ := step_effect hstep
  · exact ⟨rfl, rfl⟩
  · have hparams : t.params = (s.consume n rest).params := params_of_effect heffect
    exact ⟨hparams, (stagePort_of_effect heffect).trans hport⟩
  · exact ⟨rfl, hport⟩

/-! ### Where XFORM goes -/

/-- The state with other transform registers and other values carried by NDC_OUT. -/
def State.withXform (s : State) (offset origin size : BitVec 32) (ndc : List (Rat × Rat)) : State :=
  { s with xformOffset := offset, xformOrigin := origin, xformSize := size, ndcOut := ndc }

theorem agreeButXform_iff {s s' : State} :
    s.AgreeButXform s' ↔ ∃ offset origin size ndc, s' = s.withXform offset origin size ndc := by
  refine ⟨fun h => ⟨_, _, _, _, h⟩, ?_⟩
  rintro ⟨offset, origin, size, ndc, rfl⟩
  rfl

/-- The same kind of answer, with states that agree but for XFORM and NDC_OUT. -/
inductive OutcomesAgree : Host.Outcome State Fault Refusal → Host.Outcome State Fault Refusal → Prop
  | next {t t' : State} (h : t.AgreeButXform t') : OutcomesAgree (.next t) (.next t')
  | fault (r : Fault) : OutcomesAgree (.fault r) (.fault r)

theorem OutcomesAgree.of_next {t : State} {o : Host.Outcome State Fault Refusal}
    (h : OutcomesAgree (.next t) o) : ∃ t', o = .next t' ∧ t.AgreeButXform t' := by
  cases h with
  | next hagree => exact ⟨_, rfl, hagree⟩

theorem OutcomesAgree.of_fault {r : Fault} {o : Host.Outcome State Fault Refusal}
    (h : OutcomesAgree (.fault r) o) : o = .fault r := by
  cases h with
  | fault => rfl

section

variable (s : State) (offset origin size : BitVec 32) (ndc : List (Rat × Rat))

/-- No instruction but VTX_MAP reads XFORM, and VTX_MAP writes NDC_OUT alone. -/
theorem exec_withXform {i : Instr} {t : State} (h : exec i s = .next t) :
    ∃ t', exec i (s.withXform offset origin size ndc) = .next t' ∧ t.AgreeButXform t' := by
  cases i with
  | frag f res =>
    cases effect_of_exec h with
    | pend _ hclear => exact ⟨_, exec_frag_of_clear f _ hclear, rfl⟩
    | malformed _ hset => exact ⟨_, exec_frag_of_reservedBitSet f _ hset, rfl⟩
    | stage hstage => cases hstage
  | barrier =>
    cases effect_of_exec h with
    | perform hfree => exact ⟨_, exec_barrier_of_hazardFree hfree, rfl⟩
    | hazard hhazard => exact ⟨_, exec_barrier_of_hazard hhazard, rfl⟩
    | stage hstage => cases hstage
  | setXform ox oy ax ay aw ah =>
    cases effect_of_exec h with
    | load _ _ _ _ hwidth hheight => exact ⟨_, exec_setXform_of_ne_zero ox oy ax ay _ hwidth hheight, rfl⟩
    | degenerate _ _ _ _ hzero => exact ⟨_, zeroSizeFaultsDegenerateTransform ox oy ax ay _ _ _ hzero, rfl⟩
    | stage hstage => cases hstage
  | _ => cases h; exact ⟨_, rfl, rfl⟩

theorem step_withXform : OutcomesAgree (step s) (step (s.withXform offset origin size ndc)) := by
  have hexec : ∀ (i : Instr) (s : State),
      OutcomesAgree (exec i s) (exec i (s.withXform offset origin size ndc)) := fun i s => by
    obtain ⟨t, ht⟩ := exec_next i s
    obtain ⟨t', ht', hagree⟩ := exec_withXform s offset origin size ndc ht
    rw [ht, ht']
    exact .next hagree
  cases hfaulted : s.faulted with
  | true =>
    rw [step_of_faulted hfaulted, step_of_faulted (s := s.withXform offset origin size ndc) hfaulted]
    exact .fault .halted
  | false =>
    cases hport : s.stagePort with
    | some op =>
      rw [step_of_stagePort hfaulted hport,
        step_of_stagePort (s := s.withXform offset origin size ndc) hfaulted hport]
      exact hexec op.toInstr { s with stagePort := none }
    | none =>
      cases hdecode : decode s.stream with
      | command i rest =>
        rw [step_of_decode_command hfaulted hport hdecode,
          step_of_decode_command (s := s.withXform offset origin size ndc) hfaulted hport hdecode]
        exact hexec i (s.consume _ rest)
      | error e =>
        rw [step_of_decode_error hfaulted hport hdecode,
          step_of_decode_error (s := s.withXform offset origin size ndc) hfaulted hport hdecode]
        cases e with
        | endOfInput => exact .fault .endOfInput
        | illegalHeader => exact .next rfl
        | truncated => exact .next rfl

end

/-- Settles O54: the second state is the first with other transform registers and other NDC_OUT values, and
the two steps agree. -/
theorem xformReachesNdcOutOnly : Obligations.XformReachesNdcOutOnly := by
  intro s s' hagree
  obtain ⟨offset, origin, size, ndc, rfl⟩ := agreeButXform_iff.1 hagree
  have hsteps := step_withXform s offset origin size ndc
  refine ⟨fun t ht => ?_, fun r hr => ?_⟩
  · rw [ht] at hsteps
    exact hsteps.of_next
  · rw [hr] at hsteps
    exact hsteps.of_fault

end Sys2Proof.Machine
end

section
/-! PROOFS. The hazard check on a batch, the order of its fragments, and performing them one after another
(20_memory.md R60 to R62, R68; 40_fragment_pipeline_datapath.md R130). -/

namespace Sys2Proof.Machine

/-! ### A fragment against two stores -/

section

variable {p : Params} {m m' : Memory} {f : Frag}

theorem palAddr_congr {d : Depth} (htexture : m'.readWord (texAddr p f d) = m.readWord (texAddr p f d)) :
    palAddr p m' f d = palAddr p m f d := by
  rw [palAddr, palAddr, palIndex, palIndex, htexture]

/-- The texture stage sees the words of its own read set only. -/
theorem textureStage_congr (hagree : ∀ a ∈ textureReads p m f, m'.readWord a = m.readWord a) :
    texelOf p m' f = texelOf p m f ∧ textureReads p m' f = textureReads p m f := by
  cases htex : f.tex with
  | false =>
    simp only [texelOf_untextured p _ htex, textureReads_untextured p _ htex, and_self]
  | true =>
    have htexture : m'.readWord (texAddr p f f.depth) = m.readWord (texAddr p f f.depth) :=
      hagree _ (by simp [textureReads, htex])
    have hpalette : hasPalette f.depth = true →
        m'.readWord (palAddr p m f f.depth) = m.readWord (palAddr p m f f.depth) := fun hpal =>
      hagree _ (by simp [textureReads, htex, hpal])
    have hfetch : texelFetch p m' f f.depth = texelFetch p m f f.depth := by
      unfold texelFetch
      rw [palAddr_congr htexture]
      split
      next hpal => exact hpalette hpal
      next => exact htexture
    exact ⟨by rw [texelOf_textured p _ htex, texelOf_textured p _ htex, hfetch],
      by rw [textureReads, textureReads, palAddr_congr htexture]⟩

theorem composite_congr_store {req : Bool} (dst : Addr) (bm : BlendMode) (c : Lanes Rat)
    (hdest : req = true → m'.readWord dst = m.readWord dst) :
    composite m' dst bm req c = composite m dst bm req c := by
  cases req with
  | false => rfl
  | true => rw [composite, composite, backColor, backColor, hdest rfl]

end

/-- Settles O19: the texture stage agrees on the two stores, and the destination is a word of the read set
where blending reads it. -/
theorem fragmentDependsOnlyOnWhatItReads : Obligations.FragmentDependsOnlyOnWhatItReads := by
  intro p m m' f hagree
  rw [reads_eq] at hagree
  obtain ⟨htexel, hreads⟩ := textureStage_congr fun a ha => hagree a (List.mem_append_left _ ha)
  have hdest : request f.ste (texelOf p m f) = true → m'.readWord (dest f) = m.readWord (dest f) :=
    fun hreq => hagree _ (List.mem_append_right _ (by simp [hreq]))
  exact ⟨by rw [fragmentResult_eq, fragmentResult_eq, htexel, finish, finish,
      composite_congr_store _ _ _ hdest],
    by rw [reads_eq, reads_eq, htexel, hreads]⟩

/-! ### The hazard check -/

section

variable {p : Params} {m : Memory} {fs gs : List Frag}

/-- No word that `f` writes is a word that `g` reads. -/
def WriteMissesReads (p : Params) (m : Memory) (f g : Frag) : Prop :=
  ∀ a v, fragmentResult p m f = .write a v → a ∉ reads p m g

theorem noConflict_iff {f g : Frag} :
    noConflict p m f g = true ↔ WriteMissesReads p m f g ∧ WriteMissesReads p m g f := by
  simp [noConflict, WriteMissesReads, mem_writes_iff]

theorem hazardFree_iff_pairwise :
    hazardFree p m fs = true ↔ fs.Pairwise (fun f g => noConflict p m f g = true) := by
  induction fs with
  | nil => simp [hazardFree]
  | cons f fs ih => simp [hazardFree, ih]

theorem noConflict_symm {f g : Frag} (h : noConflict p m f g = true) : noConflict p m g f = true :=
  noConflict_iff.2 (noConflict_iff.1 h).symm

theorem hazardFree_of_perm (hperm : fs.Perm gs) (hfree : hazardFree p m fs = true) :
    hazardFree p m gs = true :=
  hazardFree_iff_pairwise.2 ((hperm.pairwise_iff noConflict_symm).1 (hazardFree_iff_pairwise.1 hfree))

/-- The relation through the fragments of the batch alone. -/
theorem batchMayLeave_iff {m' : Memory} :
    BatchMayLeave p m fs m' ↔ ∀ a, (a, m'.readWord a) ∈ batchWrites p m fs ∨
      (∀ v, (a, v) ∉ batchWrites p m fs) ∧ m'.readWord a = m.readWord a := by
  simp only [BatchMayLeave, List.eq_nil_iff_forall_not_mem, mem_candidates]

theorem batchMayLeave_of_perm {m' : Memory} (hperm : fs.Perm gs) (h : BatchMayLeave p m fs m') :
    BatchMayLeave p m gs m' := by
  have hwrites : ∀ w, w ∈ batchWrites p m gs ↔ w ∈ batchWrites p m fs := fun _ =>
    (hperm.flatMap_right _).mem_iff.symm
  simpa only [batchMayLeave_iff, hwrites] using h

end

/-- Settles O16: the check is pairwise freedom from conflicts, which is symmetric. -/
theorem hazardFreeMeansNoWriteMeetsAnothersRead : Obligations.HazardFreeMeansNoWriteMeetsAnothersRead := by
  intro p m fs
  rw [hazardFree_iff_pairwise, List.pairwise_iff_getElem]
  constructor
  · intro hpair i j hne
    obtain hlt | hgt := Nat.lt_or_gt_of_ne (Fin.val_ne_of_ne hne)
    · exact (noConflict_iff.1 (hpair i j i.isLt j.isLt hlt)).1
    · exact (noConflict_iff.1 (hpair j i j.isLt i.isLt hgt)).2
  · intro hmiss i j hi hj hlt
    have hne : (⟨i, hi⟩ : Fin fs.length) ≠ ⟨j, hj⟩ := Fin.ne_of_val_ne (Nat.ne_of_lt hlt)
    exact noConflict_iff.2 ⟨hmiss _ _ hne, hmiss _ _ hne.symm⟩

/-- Settles O17: both are about the set of places and their records, not about the order. -/
theorem orderOfPendingCarriesNoMeaning : Obligations.OrderOfPendingCarriesNoMeaning := by
  intro p m fs gs hperm
  exact ⟨Bool.eq_iff_iff.2 ⟨hazardFree_of_perm hperm, hazardFree_of_perm hperm.symm⟩,
    fun _ => ⟨batchMayLeave_of_perm hperm, batchMayLeave_of_perm hperm.symm⟩⟩

/-! ### One fragment after another -/

section

variable {p : Params} {m : Memory}

/-- Write a list of words in order. -/
def writeAll (m : Memory) (ws : List (Addr × Pixel)) : Memory :=
  ws.foldl (fun m' w => m'.writeWord w.1 w.2) m

theorem writeAll_append (m : Memory) (ws ws' : List (Addr × Pixel)) :
    writeAll m (ws ++ ws') = writeAll (writeAll m ws) ws' := List.foldl_append ..

/-- The last word written at an address stays there. -/
theorem readWord_writeAll (m : Memory) (ws : List (Addr × Pixel)) (a : Addr) :
    (writeAll m ws).readWord a = ((candidates ws a).getLast?).getD (m.readWord a) := by
  induction ws generalizing m with
  | nil => rfl
  | cons w ws ih =>
    rw [writeAll, List.foldl_cons, ← writeAll, ih]
    by_cases h : w.1 = a
    · have hcandidates : candidates (w :: ws) a = w.2 :: candidates ws a := by simp [candidates, h]
      rw [hcandidates, List.getLast?_cons, Option.getD_some, ← h, readWord_writeWord_same]
    · have hcandidates : candidates (w :: ws) a = candidates ws a := by simp [candidates, h]
      rw [hcandidates, readWord_writeWord_other m w.2 (Ne.symm h)]

theorem readWord_writeAll_other {ws : List (Addr × Pixel)} {a : Addr} (h : ∀ v, (a, v) ∉ ws) :
    (writeAll m ws).readWord a = m.readWord a := by
  have hnil : candidates ws a = [] :=
    List.eq_nil_iff_forall_not_mem.2 fun v hv => h v ((mem_candidates ws a v).1 hv)
  rw [readWord_writeAll, hnil]
  rfl

theorem readWord_writeAll_mem {ws : List (Addr × Pixel)} {a : Addr} {v : Pixel} (h : (a, v) ∈ ws) :
    (a, (writeAll m ws).readWord a) ∈ ws := by
  have hne : candidates ws a ≠ [] := List.ne_nil_of_mem ((mem_candidates ws a v).2 h)
  rw [readWord_writeAll, List.getLast?_eq_getLast_of_ne_nil hne]
  exact (mem_candidates ws a _).1 (List.getLast_mem hne)

theorem performOne_eq (p : Params) (m : Memory) (f : Frag) : performOne p m f = writeAll m (writes p m f) := by
  unfold performOne writes
  cases fragmentResult p m f <;> rfl

theorem performOne_congr {m₁ : Memory} {f : Frag}
    (hagree : ∀ a ∈ reads p m f, m₁.readWord a = m.readWord a) :
    performOne p m₁ f = writeAll m₁ (writes p m f) := by
  rw [performOne_eq, writes, writes, (fragmentDependsOnlyOnWhatItReads p m m₁ f hagree).1]

/-- In a hazard-free batch no fragment sees what its predecessors wrote: `m₁` is the store that they have
made of `m`. -/
theorem performInOrder_eq {m₁ : Memory} {gs : List Frag}
    (hpair : gs.Pairwise (fun f g => noConflict p m f g = true))
    (hagree : ∀ f ∈ gs, ∀ a ∈ reads p m f, m₁.readWord a = m.readWord a) :
    performInOrder p m₁ gs = writeAll m₁ (batchWrites p m gs) := by
  induction gs generalizing m₁ with
  | nil => rfl
  | cons g gs ih =>
    obtain ⟨hg, hpair⟩ := List.pairwise_cons.1 hpair
    obtain ⟨hagree_g, hagree⟩ := List.forall_mem_cons.1 hagree
    have hunseen : ∀ f ∈ gs, ∀ a ∈ reads p m f, (writeAll m₁ (writes p m g)).readWord a = m.readWord a := by
      intro f hf a ha
      have hmiss := (noConflict_iff.1 (hg f hf)).1
      rw [readWord_writeAll_other fun v hv => hmiss a v (mem_writes_iff.1 hv) ha]
      exact hagree f hf a ha
    calc performInOrder p m₁ (g :: gs)
      _ = performInOrder p (writeAll m₁ (writes p m g)) gs := by rw [← performOne_congr hagree_g]; rfl
      _ = writeAll (writeAll m₁ (writes p m g)) (batchWrites p m gs) := ih hpair hunseen
      _ = writeAll m₁ (batchWrites p m (g :: gs)) := by
        rw [← writeAll_append]
        rfl

theorem performInOrder_of_hazardFree {gs : List Frag} (hfree : hazardFree p m gs = true) :
    performInOrder p m gs = writeAll m (batchWrites p m gs) :=
  performInOrder_eq (hazardFree_iff_pairwise.1 hfree) fun _ _ _ _ => rfl

/-- The fragment writes nothing, or the word that `m'` holds at its address. -/
def leavesWordOf (p : Params) (m m' : Memory) (f : Frag) : Bool :=
  (writes p m f).all fun w => m'.readWord w.1 == w.2

/-- Of a fragment's at most one word. -/
theorem leavesWordOf_eq_true_iff {m' : Memory} {f : Frag} {a : Addr} {v : Pixel}
    (hwrite : fragmentResult p m f = .write a v) : leavesWordOf p m m' f = true ↔ m'.readWord a = v := by
  simp [leavesWordOf, writes, hwrite]

theorem mem_batchWrites_filter {m' : Memory} {fs : List Frag} {a : Addr} {v : Pixel} :
    (a, v) ∈ batchWrites p m (fs.filter (leavesWordOf p m m')) ↔
      (a, v) ∈ batchWrites p m fs ∧ m'.readWord a = v := by
  simp only [mem_batchWrites_iff, List.mem_filter]
  constructor
  · rintro ⟨f, ⟨hf, hleaves⟩, hwrite⟩
    exact ⟨⟨f, hf, hwrite⟩, (leavesWordOf_eq_true_iff hwrite).1 hleaves⟩
  · rintro ⟨⟨f, hf, hwrite⟩, hword⟩
    exact ⟨f, ⟨hf, (leavesWordOf_eq_true_iff hwrite).2 hword⟩, hwrite⟩

/-- An order in which the writers of the words that `m'` holds come last. -/
def winnersLast (p : Params) (m m' : Memory) (fs : List Frag) : List Frag :=
  fs.filter (fun f => !leavesWordOf p m m' f) ++ fs.filter (leavesWordOf p m m')

theorem winnersLast_perm (m' : Memory) (fs : List Frag) : (winnersLast p m m' fs).Perm fs :=
  List.perm_append_comm.trans (List.filter_append_perm _ fs)

/-- The losers' words are written over, or lie where no winner writes. -/
theorem readWord_writeAll_winnersLast {m' : Memory} {fs : List Frag} (hleave : BatchMayLeave p m fs m')
    (a : Addr) : (writeAll m (batchWrites p m (winnersLast p m m' fs))).readWord a = m'.readWord a := by
  obtain hwritten | ⟨hunwritten, hsame⟩ := batchMayLeave_iff.1 hleave a
  · have hwinner := mem_batchWrites_filter.2 ⟨hwritten, rfl⟩
    rw [winnersLast, batchWrites, List.flatMap_append, writeAll_append]
    exact (mem_batchWrites_filter.1 (readWord_writeAll_mem hwinner)).2.symm
  · have hother : ∀ v, (a, v) ∉ batchWrites p m (winnersLast p m m' fs) := fun v hv =>
      hunwritten v (((winnersLast_perm m' fs).flatMap_right _).mem_iff.1 hv)
    rw [readWord_writeAll_other hother, hsame]

end

/-- Settles O18: no fragment of the batch sees what another wrote, so that an order leaves at each address the
word of the last writer; and putting the writers of a store's words last leaves these words. -/
theorem sequentialOrdersLeaveWhatTheBatchMayLeave : Obligations.SequentialOrdersLeaveWhatTheBatchMayLeave := by
  intro p m fs hfree
  constructor
  · intro gs hperm
    refine batchMayLeave_of_perm hperm (batchMayLeave_iff.2 fun a => ?_)
    rw [performInOrder_of_hazardFree (hazardFree_of_perm hperm.symm hfree)]
    by_cases h : ∃ v, (a, v) ∈ batchWrites p m gs
    · obtain ⟨v, hv⟩ := h
      exact .inl (readWord_writeAll_mem hv)
    · exact .inr ⟨not_exists.1 h, readWord_writeAll_other (not_exists.1 h)⟩
  · intro m' hleave
    have hperm := winnersLast_perm (p := p) (m := m) m' fs
    refine ⟨winnersLast p m m' fs, hperm, fun a => ?_⟩
    rw [performInOrder_of_hazardFree (hazardFree_of_perm hperm.symm hfree)]
    exact readWord_writeAll_winnersLast hleave a

end Sys2Proof.Machine
end

section
/-! PROOFS. QUANT5: its laws, its tie choices, and the round trip of a raw texel
(44_pixel_output_formatter.md R230, R235). -/

namespace Sys2Proof.Machine

/-! ### The nearest integer -/

/-- Two integers near one number are equal where one of them is nearer than a half. -/
theorem int_eq_of_abs_sub_lt {a b : Int} {x : Rat} (ha : |(a : Rat) - x| ≤ 1 / 2)
    (hb : |(b : Rat) - x| < 1 / 2) :
    a = b := by
  rw [abs_le] at ha
  rw [abs_lt] at hb
  have hlt : (a : Rat) < (b + 1 : Int) := by push_cast; linarith
  have hgt : (b : Rat) < (a + 1 : Int) := by push_cast; linarith
  exact le_antisymm (Int.lt_add_one_iff.1 (Int.cast_lt.1 hlt)) (Int.lt_add_one_iff.1 (Int.cast_lt.1 hgt))

section

variable (ties : BitVec 31)

/-- The three branches of QUANT5. -/
theorem quant5Int_cases (v : Rat) :
    (31 * v < ⌊31 * v⌋ + 1 / 2 ∧ quant5Int ties v = ⌊31 * v⌋) ∨
    ((⌊31 * v⌋ : Rat) + 1 / 2 < 31 * v ∧ quant5Int ties v = ⌊31 * v⌋ + 1) ∨
    (31 * v = ⌊31 * v⌋ + 1 / 2 ∧
      quant5Int ties v = if ties.getLsbD ⌊31 * v⌋.toNat then ⌊31 * v⌋ + 1 else ⌊31 * v⌋) := by
  unfold quant5Int
  generalize ⌊31 * v⌋ = n
  obtain h | h | h := lt_trichotomy (31 * v - n) (1 / 2)
  · exact .inl ⟨by linarith, by simp only [if_pos h]⟩
  · exact .inr (.inr ⟨by linarith, by simp only [h, lt_irrefl, if_false]⟩)
  · exact .inr (.inl ⟨by linarith, by simp only [if_neg h.not_gt, if_pos h]⟩)

/-- Q1 without its range: the code is the nearest integer, or one of two at a tie. -/
theorem abs_quant5Int_sub_le (v : Rat) : |(quant5Int ties v : Rat) - 31 * v| ≤ 1 / 2 := by
  have hle := Int.floor_le (31 * v)
  have hlt := Int.lt_floor_add_one (31 * v)
  obtain ⟨h, hq⟩ | ⟨h, hq⟩ | ⟨h, hq⟩ := quant5Int_cases ties v
  · rw [hq, abs_le]; constructor <;> linarith
  · rw [hq, abs_le]; push_cast; constructor <;> linarith
  · rw [hq, abs_le]
    split <;> push_cast <;> constructor <;> linarith

/-- Q2: two codes in the wrong order would be both at the same tie. -/
theorem quant5Int_mono {v v' : Rat} (h : v ≤ v') : quant5Int ties v ≤ quant5Int ties v' := by
  obtain rfl | hlt := h.eq_or_lt
  · exact le_refl _
  have hv := abs_le.1 (abs_quant5Int_sub_le ties v)
  have hv' := abs_le.1 (abs_quant5Int_sub_le ties v')
  have hnear : (quant5Int ties v : Rat) < (quant5Int ties v' + 1 : Int) := by push_cast; linarith
  exact Int.lt_add_one_iff.1 (Int.cast_lt.1 hnear)

theorem quant5Int_div (k : Int) : quant5Int ties ((k : Rat) / 31) = k := by
  refine int_eq_of_abs_sub_lt (abs_quant5Int_sub_le ties _) ?_
  rw [mul_div_cancel₀ _ (by norm_num), sub_self, abs_zero]
  norm_num

variable {v : Rat} (h₀ : 0 ≤ v) (h₁ : v ≤ 1)
include h₀ h₁

theorem quant5Int_mem_range : 0 ≤ quant5Int ties v ∧ quant5Int ties v ≤ 31 := by
  have hzero : quant5Int ties 0 = 0 := by simpa using quant5Int_div ties 0
  have hone : quant5Int ties 1 = 31 := by simpa using quant5Int_div ties 31
  exact ⟨hzero ▸ quant5Int_mono ties h₀, hone ▸ quant5Int_mono ties h₁⟩

/-- On [0, 1] the five bits hold the integer. -/
theorem quant5_toNat : ((quant5 ties v).toNat : Int) = quant5Int ties v := by
  obtain ⟨hlow, hhigh⟩ := quant5Int_mem_range ties h₀ h₁
  rw [quant5, BitVec.toNat_ofInt]
  omega

/-- A tie of [0, 1] is one of the 31 that the parameter has a bit for. -/
theorem floor_toNat_lt_of_tie (h : 31 * v = ⌊31 * v⌋ + 1 / 2) :
    ((⌊31 * v⌋.toNat : Nat) : Int) = ⌊31 * v⌋ ∧ ⌊31 * v⌋.toNat < 31 := by
  have hlow : 0 ≤ ⌊31 * v⌋ := Int.floor_nonneg.2 (by linarith)
  have hhigh : ⌊31 * v⌋ < 31 := (Int.cast_lt (R := Rat)).1 (by push_cast; linarith)
  omega

end

theorem quant5_div (ties : BitVec 31) (k : BitVec 5) : quant5 ties ((k.toNat : Rat) / 31) = k := by
  have hk : quant5Int ties ((k.toNat : Rat) / 31) = k.toNat := by
    rw [← Int.cast_natCast, quant5Int_div]
  rw [quant5, hk, BitVec.ofInt_natCast, BitVec.ofNat_toNat, BitVec.setWidth_eq]

/-- Settles O40: the five bits hold the integer, which is nearest, monotone and k at k/31. -/
theorem quantiserMeetsItsLaws : Obligations.QuantiserMeetsItsLaws := by
  intro ties v h₀ h₁
  have hcode := quant5_toNat ties h₀ h₁
  refine ⟨?_, fun v' hle h₁' => ?_, quant5_div ties⟩
  · have hnear := abs_quant5Int_sub_le ties v
    rw [← hcode] at hnear
    exact_mod_cast hnear
  · have hmono := quant5Int_mono ties hle
    rw [← hcode, ← quant5_toNat ties (h₀.trans hle) h₁'] at hmono
    exact_mod_cast hmono

/-! ### The tie choices -/

/-- The tie bits of a quantiser: bit k says that it rounds 31 v = k + 1/2 up. -/
def tiesOf (q : Rat → Int) : BitVec 31 :=
  BitVec.ofFnLE fun k : Fin 31 => q (((k : Nat) + 1 / 2 : Rat) / 31) == (k : Nat) + 1

theorem getLsbD_tiesOf (q : Rat → Int) {v : Rat} (h₀ : 0 ≤ v) (h₁ : v ≤ 1) (h : 31 * v = ⌊31 * v⌋ + 1 / 2) :
    (tiesOf q).getLsbD ⌊31 * v⌋.toNat = (q v == ⌊31 * v⌋ + 1) := by
  obtain ⟨hcast, hlt⟩ := floor_toNat_lt_of_tie h₀ h₁ h
  have hcast' : ((⌊31 * v⌋.toNat : Nat) : Rat) = ⌊31 * v⌋ := mod_cast hcast
  have hv : ((⌊31 * v⌋.toNat : Nat) + 1 / 2 : Rat) / 31 = v := by
    rw [hcast', ← h]
    exact mul_div_cancel_left₀ v (by norm_num)
  rw [BitVec.getLsbD_eq_getElem hlt, tiesOf, BitVec.getElem_ofFnLE]
  simp only [hv, hcast]

/-- On [0, 1] a quantiser that meets Q1 is that of its own tie bits. -/
theorem quant5Int_tiesOf {q : Rat → Int} {v : Rat} (h₀ : 0 ≤ v) (h₁ : v ≤ 1)
    (hq : |(q v : Rat) - 31 * v| ≤ 1 / 2) : quant5Int (tiesOf q) v = q v := by
  have hle := Int.floor_le (31 * v)
  have hlt := Int.lt_floor_add_one (31 * v)
  obtain ⟨h, hfloor⟩ | ⟨h, hceil⟩ | ⟨h, htie⟩ := quant5Int_cases (tiesOf q) v
  · rw [hfloor]
    exact (int_eq_of_abs_sub_lt hq (abs_lt.2 ⟨by linarith, by linarith⟩)).symm
  · rw [hceil]
    exact (int_eq_of_abs_sub_lt hq (abs_lt.2 ⟨by push_cast; linarith, by push_cast; linarith⟩)).symm
  · rw [htie, getLsbD_tiesOf q h₀ h₁ h]
    obtain ⟨hlow, hhigh⟩ := abs_le.1 hq
    have hlow' : ⌊31 * v⌋ ≤ q v := (Int.cast_le (R := Rat)).1 (by linarith)
    have hhigh' : q v ≤ ⌊31 * v⌋ + 1 := (Int.cast_le (R := Rat)).1 (by push_cast; linarith)
    split
    next hup => exact (beq_iff_eq.1 hup).symm
    next hdown =>
      have hne : q v ≠ ⌊31 * v⌋ + 1 := fun heq => hdown (beq_iff_eq.2 heq)
      omega

/-- With every tie up the code is floor(31 v + 1/2). -/
theorem quant5Int_default {v : Rat} (h₀ : 0 ≤ v) (h₁ : v ≤ 1) :
    quant5Int Params.default.quantTies v = ⌊31 * v + 1 / 2⌋ := by
  have hle := Int.floor_le (31 * v)
  have hlt := Int.lt_floor_add_one (31 * v)
  refine (Int.floor_eq_iff.2 ?_).symm
  obtain ⟨h, hq⟩ | ⟨h, hq⟩ | ⟨h, hq⟩ := quant5Int_cases Params.default.quantTies v
  · rw [hq]; constructor <;> linarith
  · rw [hq]; push_cast; constructor <;> linarith
  · have hup : Params.default.quantTies.getLsbD ⌊31 * v⌋.toNat = true := by
      rw [Params.default, BitVec.getLsbD_allOnes]
      exact decide_eq_true (floor_toNat_lt_of_tie h₀ h₁ h).2
    rw [hq, if_pos hup]; push_cast; constructor <;> linarith

/-- Settles O41: Q1 leaves only the ties open, and the tie bits record how a function rounds them. -/
theorem tieChoicesAreAllOfQuant5 : Obligations.TieChoicesAreAllOfQuant5 := by
  constructor
  · intro q hrange _
    refine ⟨tiesOf q, fun v h₀ h₁ => ?_⟩
    obtain ⟨-, -, hnear⟩ := hrange v h₀ h₁
    exact (quant5_toNat (tiesOf q) h₀ h₁).trans (quant5Int_tiesOf h₀ h₁ hnear)
  · intro v h₀ h₁
    exact (quant5_toNat _ h₀ h₁).trans (quant5Int_default h₀ h₁)

/-! ### The round trip -/

/-- A store word is its mask bit and its three colour fields. -/
theorem mask_append_fields (w : Pixel) :
    BitVec.ofBool (pixelMask w) ++ w.extractLsb' 10 5 ++ w.extractLsb' 5 5 ++ w.extractLsb' 0 5 = w := by
  have hmask : BitVec.ofBool (pixelMask w) = w.extractLsb' 15 1 := by
    ext j hj
    obtain rfl : j = 0 := by omega
    simp [pixelMask]
  rw [hmask, BitVec.extractLsb'_append_extractLsb'_eq_extractLsb' (by decide),
    BitVec.extractLsb'_append_extractLsb'_eq_extractLsb' (by decide),
    BitVec.extractLsb'_append_extractLsb'_eq_extractLsb' (by decide)]
  exact BitVec.extractLsb'_eq_self

theorem clamp01_field (k : BitVec 5) : clamp01 ((k.toNat : Rat) / 31) = (k.toNat : Rat) / 31 := by
  have hle : (k.toNat : Rat) ≤ 31 := mod_cast Nat.le_of_lt_succ k.isLt
  rw [clamp01, max_eq_right (by positivity), min_eq_right (by linarith)]

/-- The colour of a store word passes the clamp and the quantiser unchanged. -/
theorem formatPixel_pixelColor (p : Params) (w : Pixel) :
    formatPixel p (frontColor (pixelColor w)) (pixelMask w) = w := by
  have hlane : ∀ k : BitVec 5, quant5 p.quantTies (clamp01 ((k.toNat : Rat) / 31)) = k := fun k => by
    rw [clamp01_field, quant5_div]
  simp only [formatPixel, frontColor, pixelColor, pixelLanes, Lanes.map, hlane, mask_append_fields]

theorem ofWord_of_ne_zero {w : Pixel} (h : w ≠ 0) : Texel.ofWord w = .word w := by
  rw [Texel.ofWord, isTransparent, beq_eq_false_iff_ne.2 h]
  rfl

theorem request_word_eq_false {ste : Bool} {w : Pixel} (h : ste = false ∨ w.getLsbD 15 = false) :
    request ste (.word w) = false :=
  Bool.and_eq_false_iff.2 h

/-- Settles O43: the front colour is that of the texel word, and formatting it gives the word back. -/
theorem rawUnblendedTexelIsWrittenUnchanged : Obligations.RawUnblendedTexelIsWrittenUnchanged := by
  intro p m f htex htbl hne hunblended
  have htexel : texelOf p m f = .word (texelFetch p m f f.depth) :=
    (texelOf_textured p m htex).trans (ofWord_of_ne_zero hne)
  rw [fragmentResult_eq, htexel, if_neg Texel.noConfusion, request_word_eq_false hunblended, finish,
    preBlendColor_raw _ htbl]
  exact congrArg (FragOutcome.write (dest f)) (formatPixel_pixelColor p _)

end Sys2Proof.Machine
end

section
/-! PROOFS. The stage selectors one by one: dithering, modulation, compositing, and what they leave of a
discarded fragment (41_texture_palette_decoder.md section 4, 42_dither_spatial_perturber.md, 43_blend_compositor.md). -/

namespace Sys2Proof.Machine

/-! ### A stage on a fragment with and without its operand -/

section

variable {dp : Datapath} (m : Memory) (bm : BlendMode) (req : Bool)

theorem modulate_of_transparent (color : Pixel → Lanes Rat) (h : dp.texel = .transparent) :
    dp.modulate color = dp := by
  simp [Datapath.modulate, h]

theorem modulate_of_word {w : Pixel} (color : Pixel → Lanes Rat) (h : dp.texel = .word w) :
    dp.modulate color = { dp with front := color w } := by
  simp [Datapath.modulate, h]

theorem composite_of_transparent (h : dp.texel = .transparent) : dp.composite m bm req = dp := by
  simp [Datapath.composite, h]

theorem composite_of_not_transparent (h : dp.texel ≠ .transparent) :
    dp.composite m bm req = { dp with color := composite m (dest dp.frag) bm req dp.front } := by
  unfold Datapath.composite
  cases htexel : dp.texel with
  | transparent => exact absurd htexel h
  | untextured => rfl
  | word w => rfl

theorem format_of_transparent (p : Params) (h : dp.texel = .transparent) : dp.format p = dp := by
  simp [Datapath.format, h]

end

/-- The compositing selector of a blend mode. -/
theorem exec_blendOp (bm : BlendMode) (s : State) :
    exec (blendOp bm).toInstr s = .next (s.withDp (s.dp.composite s.store bm s.dp.req)) := by
  cases bm <;> rfl

/-- Settles O44: without the operand each of these stages hands on the fragment as it is. -/
theorem laterStagesLeaveADiscardedFragmentAlone : Obligations.LaterStagesLeaveADiscardedFragmentAlone := by
  intro s htexel i hi
  have hmodulate : ∀ color, s.withDp (s.dp.modulate color) = s := fun color => by
    rw [modulate_of_transparent color htexel]
    rfl
  have hcomposite : ∀ bm req, s.withDp (s.dp.composite s.store bm req) = s := fun bm req => by
    rw [composite_of_transparent s.store bm req htexel]
    rfl
  have hformat : s.withDp (s.dp.format s.params) = s := by
    rw [format_of_transparent s.params htexel]
    rfl
  simp only [List.mem_cons, List.not_mem_nil, or_false] at hi
  obtain rfl | rfl | rfl | rfl | rfl | rfl | rfl | rfl := hi
  · exact congrArg _ (hmodulate modRawColor)
  · exact congrArg _ (hmodulate (modBlendColor · s.dp.shade))
  · exact congrArg _ (hcomposite .avg false)
  · exact congrArg _ (hcomposite .avg s.dp.req)
  · exact congrArg _ (hcomposite .add s.dp.req)
  · exact congrArg _ (hcomposite .sub s.dp.req)
  · exact congrArg _ (hcomposite .qadd s.dp.req)
  · exact congrArg _ hformat

/-! ### Dithering -/

/-- Settles O34: the shade is the record's. -/
theorem ditherOffKeepsTheShade : Obligations.DitherOffKeepsTheShade := fun _ => rfl

/-- The table that the model holds is the one of R190. -/
theorem ditherRom_eq_table (y x : Fin 4) :
    ditherRom[y][x] =
      (([[-4, 0, -3, 1], [2, -2, 3, -1], [-3, 1, -4, 0], [3, -1, 2, -2]] : List (List Int)).getD y []).getD
        x 0 := by
  revert y x
  decide

/-- The wrap to the store, of sizes that 4 divides, keeps the cell (R191). -/
theorem wrapAddr_mod_four (x y : Int) :
    (wrapAddr x y).x.val % 4 = (x % 4).toNat ∧ (wrapAddr x y).y.val % 4 = (y % 4).toNat := by
  simp only [wrapAddr]
  omega

/-- Settles O35: the cell of the wrapped destination is that of the raw coordinates. -/
theorem ditherOnAddsTheTableEntry : Obligations.DitherOnAddsTheTableEntry := by
  intro s f table d
  obtain ⟨hx, hy⟩ := wrapAddr_mod_four f.dx.toInt f.dy.toInt
  have hoffset : ditherOffset (dest f) = d :=
    calc ditherOffset (dest f)
      _ = (table.getD ((dest f).y.val % 4) []).getD ((dest f).x.val % 4) 0 :=
        ditherRom_eq_table ⟨_, Nat.mod_lt _ (by decide)⟩ ⟨_, Nat.mod_lt _ (by decide)⟩
      _ = d := by rw [dest, hx, hy]
  rw [← hoffset]
  rfl

/-! ### The front colour -/

/-- Settles O28: the selector reads the dithered shade alone. -/
theorem texNoneTakesTheShadeAsFrontColour : Obligations.TexNoneTakesTheShadeAsFrontColour := fun _ => rfl

/-- Settles O31: the colour of the texel word. -/
theorem modRawPassesTheTexelThrough : Obligations.ModRawPassesTheTexelThrough := by
  intro s w htexel
  rw [exec, execModRaw, modulate_of_word modRawColor htexel]
  rfl

/-- Settles O32: the texel's colour times twice the shade's. -/
theorem modBlendMultipliesByTwiceTheShade : Obligations.ModBlendMultipliesByTwiceTheShade := by
  intro s w htexel
  rw [exec, execModBlend, modulate_of_word (modBlendColor · s.dp.shade) htexel]
  rfl

/-! ### Compositing -/

theorem request_false (t : Texel) : request false t = false := by
  cases t <;> rfl

/-- A compositor without a request does not look at the mode. -/
theorem composite_unrequested (dp : Datapath) (m : Memory) (bm bm' : BlendMode) :
    dp.composite m bm false = dp.composite m bm' false := by
  unfold Datapath.composite
  cases dp.texel <;> rfl

/-- Settles O36: without a request the compositor is the clamp. -/
theorem blendNoneTakesTheFrontColour : Obligations.BlendNoneTakesTheFrontColour := by
  intro s htexel
  rw [exec, execBlendNone, composite_of_not_transparent s.store .avg false htexel]
  rfl

/-- Settles O37: where the fragment requests blending, each selector takes its equation on the two colours. -/
theorem requestedBlendsComputeTheirEquations : Obligations.RequestedBlendsComputeTheirEquations := by
  intro s hste hoperand
  obtain ⟨hreq, htexel⟩ : s.dp.req = true ∧ s.dp.texel ≠ .transparent := by
    obtain htexel | ⟨w, htexel, hmask⟩ := hoperand
    · simp [Datapath.req, htexel, request, hste]
    · simp [Datapath.req, htexel, request, hste, pixelMask, hmask]
  have hexec : ∀ bm, exec (blendOp bm).toInstr s = .next (s.withDp { s.dp with
      color := compose bm (backColor s.store (dest s.dp.frag)) (frontColor s.dp.front) }) := fun bm => by
    rw [exec_blendOp, hreq, composite_of_not_transparent s.store bm true htexel]
    rfl
  exact ⟨hexec .avg, hexec .add, hexec .sub, hexec .qadd⟩

/-- Settles O38: without a request the compositor does not look at the mode. -/
theorem unrequestedBlendsDoWhatBlendNoneDoes : Obligations.UnrequestedBlendsDoWhatBlendNoneDoes := by
  intro s hoperand i hi
  have hreq : s.dp.req = false := by
    obtain ⟨htexel, hste⟩ | ⟨w, htexel, hunblended⟩ := hoperand
    · rw [Datapath.req, htexel, hste, request_false]
    · rw [Datapath.req, htexel, request_word_eq_false hunblended]
  have hexec : ∀ bm, exec (blendOp bm).toInstr s = exec .blendNone s := fun bm => by
    rw [exec_blendOp, hreq, composite_unrequested s.dp s.store bm .avg]
    rfl
  simp only [List.mem_cons, List.not_mem_nil, or_false] at hi
  obtain rfl | rfl | rfl | rfl := hi
  · exact hexec .avg
  · exact hexec .add
  · exact hexec .sub
  · exact hexec .qadd

/-- A channel value in [0, 1]. -/
def InUnit (v : Rat) : Prop := 0 ≤ v ∧ v ≤ 1

theorem inUnit_clamp01 (v : Rat) : InUnit (clamp01 v) :=
  ⟨le_min zero_le_one (le_max_left _ _), min_le_left _ _⟩

theorem inUnit_field (k : BitVec 5) : InUnit ((k.toNat : Rat) / 31) :=
  clamp01_field k ▸ inUnit_clamp01 _

theorem inUnit_blendLane (bm : BlendMode) {b f : Rat} (hb : InUnit b) (hf : InUnit f) :
    InUnit (blendLane bm b f) := by
  obtain ⟨hb₀, hb₁⟩ := hb
  obtain ⟨hf₀, hf₁⟩ := hf
  cases bm with
  | avg => exact ⟨by unfold blendLane; linarith, by unfold blendLane; linarith⟩
  | add => exact ⟨le_min zero_le_one (by linarith), min_le_left _ _⟩
  | sub => exact ⟨le_max_left _ _, max_le zero_le_one (by linarith)⟩
  | qadd => exact ⟨le_min zero_le_one (by linarith), min_le_left _ _⟩

/-- Settles O39: every equation keeps [0, 1], and both of its operands lie there. -/
theorem compositedChannelsStayInTheUnitInterval : Obligations.CompositedChannelsStayInTheUnitInterval := by
  intro m dst bm req fpre
  cases req with
  | false => exact ⟨inUnit_clamp01 _, inUnit_clamp01 _, inUnit_clamp01 _⟩
  | true =>
    have hlane : ∀ (k : BitVec 5) (v : Rat), InUnit (blendLane bm ((k.toNat : Rat) / 31) (clamp01 v)) :=
      fun k v => inUnit_blendLane bm (inUnit_field k) (inUnit_clamp01 v)
    exact ⟨hlane _ _, hlane _ _, hlane _ _⟩

end Sys2Proof.Machine
end

section
/-! PROOFS. The texture stage: coordinates, the texel's address and word, and the selectors that fetch it
(41_texture_palette_decoder.md sections 2, 3 and 5); and the vertex transform's frame
(40_fragment_pipeline_datapath.md R128). -/

namespace Sys2Proof.Machine

/-! ### Folded coordinates -/

/-- Rounding half up: the model adds half a texel and divides. -/
theorem roundTC_eq_floor (n : Nat) (u : Int) : roundTC n u = ⌊(u : Rat) / 2 ^ n + 1 / 2⌋ := by
  cases n with
  | zero =>
    have hhalf : ⌊(1 / 2 : Rat)⌋ = 0 := by norm_num
    rw [pow_zero, div_one, Int.floor_intCast_add, hhalf, add_zero]
    rfl
  | succ k =>
    have hfrac : (u : Rat) / 2 ^ (k + 1) + 1 / 2 = ((u + 2 ^ k : Int) : Rat) / ((2 ^ (k + 1) : Nat) : Rat) := by
      push_cast
      rw [pow_succ]
      field_simp
    rw [hfrac, Rat.floor_intCast_div_natCast]
    simp [roundTC]

theorem wrapTC_toNat (u : Int) : (wrapTC u).toNat = (u % 256).toNat := BitVec.toNat_ofInt ..

/-- The five bits of a mask or an offset, in texels of eight. -/
theorem setWidth_shiftLeft_toNat (b : BitVec 5) : (b.setWidth 8 <<< 3).toNat = 8 * b.toNat := by
  have hb := b.isLt
  rw [BitVec.toNat_shiftLeft, BitVec.toNat_setWidth, Nat.shiftLeft_eq]
  omega

theorem window_toNat (c : BitVec 8) (m o : BitVec 5) :
    (window c m o).toNat = (c.toNat &&& (255 - 8 * m.toNat)) ||| 8 * (o.toNat &&& m.toNat) := by
  rw [window, BitVec.toNat_or, BitVec.toNat_and, BitVec.toNat_not, setWidth_shiftLeft_toNat,
    setWidth_shiftLeft_toNat, BitVec.toNat_and]

/-- Settles O25: each axis is rounded, wrapped and folded by the rules above. -/
theorem coordinatesAreRoundedWrappedAndFolded : Obligations.CoordinatesAreRoundedWrappedAndFolded := by
  intro p f u v
  constructor
  · rw [coordX, window_toNat, wrapTC_toNat, roundTC_eq_floor]
  · rw [coordY, window_toNat, wrapTC_toNat, roundTC_eq_floor]

/-- Settles O26: a bit that the mask takes comes from the offset both times, another one from the coordinate. -/
theorem windowFoldIsIdempotent : Obligations.WindowFoldIsIdempotent := by
  intro c m o
  ext i hi
  by_cases hlow : i < 3
  · simp [window, hlow]
  · cases hmask : m.getLsbD (i - 3) <;> simp [window, hlow, hmask]

/-- Settles O27: 255 is one less than a multiple of every divider. -/
theorem flippedColumnHoldsTheMirroredTexel : Obligations.FlippedColumnHoldsTheMirroredTexel := by
  intro d ux hux
  cases d <;> simp only [wordX, divider, if_true] <;> omega

/-! ### The texel -/

theorem takeTexel_eq (dp : Datapath) (w : Pixel) :
    dp.takeTexel w = if w = 0 then { dp with texel := .transparent, outcome := some .discard }
      else { dp with texel := .word w } := by
  simp [Datapath.takeTexel, isTransparent]

theorem exec_depthOp (d : Depth) (s : State) :
    exec (depthOp d).toInstr s = .next (s.withDp (s.dp.fetch s.params s.store d)) := by
  cases d <;> rfl

/-- The place of a texel within its word (R159). -/
theorem subIndex_eq {k d : Nat} (hk : 16 / d = k) (afterFlip : Bool) (raw : Pixel) (ux : Nat) (flx : Bool) :
    subIndex afterFlip raw ux d flx =
      (raw.extractLsb' (k * ((if afterFlip = true ∧ flx = true then 255 - ux else ux) % d)) k).toNat := by
  simp [subIndex, hk, Nat.and_two_pow_sub_one_eq_mod, Nat.mul_comm]

theorem texAddr_eq (p : Params) (f : Frag) (d : Depth) :
    texAddr p f d = wrapAddr (f.tpx.toNat + wordX (coordX p f).toNat (divider d) f.flx : Nat)
      (f.tpy.toNat + texRow (coordY p f).toNat f.fly : Nat) := by
  rw [Nat.cast_add, Nat.cast_add]
  rfl

/-- The final word of a palette mode of `k` bits a texel: the entry that the texel's bits index. -/
theorem texelFetch_palette {k : Nat} {d : Depth} (p : Params) (m : Memory) (f : Frag)
    (hpal : hasPalette d = true) (hk : 16 / divider d = k) :
    texelFetch p m f d = m.readWord (wrapAddr (f.clx.toNat + ((m.readWord (texAddr p f d)).extractLsb'
      (k * ((if p.subindexAfterFlip = true ∧ f.flx = true then 255 - (coordX p f).toNat
        else (coordX p f).toNat) % divider d)) k).toNat : Nat) f.cly.toNat) := by
  rw [texelFetch, if_pos hpal, palAddr, palIndex, subIndex_eq hk, Nat.cast_add]

theorem texelFetch_direct {d : Depth} (p : Params) (m : Memory) (f : Frag) (hpal : hasPalette d = false) :
    texelFetch p m f d = m.readWord (texAddr p f d) := by
  rw [texelFetch, hpal]
  rfl

/-- Settles O29: the two palette modes, of 4 and 8 bits a texel. -/
theorem paletteTexelIsTheIndexedEntry : Obligations.PaletteTexelIsTheIndexedEntry := by
  intro s f ux ty sx taken
  constructor
  · refine (exec_depthOp .bpp4 s).trans ?_
    rw [Datapath.fetch, takeTexel_eq, texelFetch_palette (k := 4) s.params s.store s.dp.frag rfl rfl,
      texAddr_eq]
    rfl
  · refine (exec_depthOp .bpp8 s).trans ?_
    rw [Datapath.fetch, takeTexel_eq, texelFetch_palette (k := 8) s.params s.store s.dp.frag rfl rfl,
      texAddr_eq]
    rfl

/-- Settles O30: in the modes without a palette the divider is one. -/
theorem directTexelIsTheTextureWord : Obligations.DirectTexelIsTheTextureWord := by
  intro s i hi f ux ty w
  have hword : ∀ d : Depth, hasPalette d = false → divider d = 1 → texelFetch s.params s.store f d = w :=
    fun d hpal hdivider => by
      rw [texelFetch_direct _ _ _ hpal, texAddr_eq, hdivider, wordX, Nat.div_one, Nat.div_one]
      rfl
  have hexec : ∀ d : Depth, hasPalette d = false → divider d = 1 →
      exec (depthOp d).toInstr s = .next (s.withDp (s.dp.takeTexel w)) := fun d hpal hdivider => by
    rw [exec_depthOp, Datapath.fetch, hword d hpal hdivider]
  rw [takeTexel_eq] at hexec
  simp only [List.mem_cons, List.not_mem_nil, or_false] at hi
  obtain rfl | rfl := hi
  · exact hexec .direct rfl rfl
  · exact hexec .rsvd rfl rfl

/-- Settles O33: the texel is transparent, so that the outcome is a discard and no destination is read. -/
theorem zeroFinalWordDiscards : Obligations.ZeroFinalWordDiscards := by
  intro p m f htex hzero
  have htexel : texelOf p m f = .transparent := by
    rw [texelOf_textured p m htex, hzero]
    rfl
  have hresult : fragmentResult p m f = .discard := by rw [fragmentResult_eq, if_pos htexel]
  refine ⟨hresult, by rw [writes, hresult], by rw [performOne, hresult], ?_⟩
  rw [reads_eq, htexel, textureReads, htex]
  cases f.depth <;> rfl

/-! ### The vertex transform -/

/-- Settles O24: the axis maps d to d/size * 2 - 1, which is in order with d. -/
theorem vtxMapFramesTheDrawingArea : Obligations.VtxMapFramesTheDrawingArea := by
  intro pos offset origin size hsize d
  have haxis : ndcAxis pos offset origin size = (d : Rat) / size.toNat * 2 - 1 := rfl
  have hpos : (0 : Rat) < size.toNat := by
    have hne : size.toNat ≠ 0 := fun h => hsize (BitVec.eq_of_toNat_eq h)
    exact_mod_cast Nat.pos_of_ne_zero hne
  rw [haxis]
  refine ⟨fun h => ?_, fun h => ?_, ?_⟩
  · rw [h]
    norm_num
  · rw [h, Int.cast_natCast, div_self hpos.ne']
    norm_num
  · have hlow : 0 ≤ d ↔ 0 ≤ (d : Rat) / size.toNat := by
      rw [le_div_iff₀ hpos, zero_mul, Int.cast_nonneg_iff]
    have hhigh : d ≤ size.toNat ↔ (d : Rat) / size.toNat ≤ 1 := by
      rw [div_le_one hpos]
      exact_mod_cast Iff.rfl
    rw [hlow, hhigh]
    constructor <;> rintro ⟨h, h'⟩ <;> constructor <;> linarith

end Sys2Proof.Machine
end

section
/-! PROOFS. Running the stage selectors of a fragment one after another
(40_fragment_pipeline_datapath.md R124, R125). -/

namespace Sys2Proof.Machine

/-! ### One group of stages at a time -/

section

variable (s : State) (ops : List StageOp)

theorem runStages_cons {op : StageOp} {t : State} (h : exec op.toInstr s = .next t) :
    runStages (op :: ops) s = runStages ops t := by
  simp only [runStages, h]

theorem runStages_ditherOps (dth : Bool) :
    runStages (ditherOps dth ++ ops) s =
      runStages ops (s.withDp { s.dp with shade := dither (shade s.dp.frag) (dest s.dp.frag) dth }) := by
  cases dth <;> rfl

/-- What the texture source and the modulation leave of a fragment whose dithered shade is there. -/
def Datapath.textured (dp : Datapath) (texel : Texel) : Datapath :=
  if texel = .transparent then { dp with texel := texel, outcome := some .discard }
  else { dp with texel := texel, front := preBlendColor dp.frag texel }

/-- The front colour that the selected modulation gives a texel word. -/
def modulation (tbl : Bool) (shade : Lanes Int) (w : Pixel) : Lanes Rat :=
  if tbl then modBlendColor w shade else modRawColor w

theorem exec_modulation (tbl : Bool) (s : State) :
    exec (if tbl then StageOp.modBlend else StageOp.modRaw).toInstr s =
      .next (s.withDp (s.dp.modulate (modulation tbl s.dp.shade))) := by
  cases tbl <;> rfl

/-- Fetch and modulation together, on a word that may be the transparent one. -/
theorem modulate_takeTexel {dp : Datapath} (w : Pixel)
    (hshade : dp.shade = dither (shade dp.frag) (dest dp.frag) dp.frag.dth) :
    (dp.takeTexel w).modulate (modulation dp.frag.tbl dp.shade) = dp.textured (.ofWord w) := by
  rw [takeTexel_eq]
  by_cases hw : w = 0
  · rw [if_pos hw, modulate_of_transparent _ rfl, hw]
    rfl
  · rw [if_neg hw, modulate_of_word _ rfl, ofWord_of_ne_zero hw, Datapath.textured, if_neg Texel.noConfusion,
      hshade]
    rfl

theorem runStages_textureOps (hshade : s.dp.shade = dither (shade s.dp.frag) (dest s.dp.frag) s.dp.frag.dth) :
    runStages (textureOps s.dp.frag.tex s.dp.frag.tbl s.dp.frag.depth ++ ops) s =
      runStages ops (s.withDp (s.dp.textured (texelOf s.params s.store s.dp.frag))) := by
  cases htex : s.dp.frag.tex with
  | false =>
    rw [texelOf_untextured _ _ htex, Datapath.textured, if_neg Texel.noConfusion, preBlendColor, ← hshade]
    rfl
  | true =>
    have hstages : s.dp.textured (texelOf s.params s.store s.dp.frag) =
        (s.dp.fetch s.params s.store s.dp.frag.depth).modulate (modulation s.dp.frag.tbl s.dp.shade) := by
      rw [texelOf_textured _ _ htex, Datapath.fetch, modulate_takeTexel _ hshade]
    have hshade' : (s.dp.fetch s.params s.store s.dp.frag.depth).shade = s.dp.shade := by
      rw [Datapath.fetch, takeTexel_eq]
      split <;> rfl
    rw [hstages, ← hshade']
    exact (runStages_cons s _ (exec_depthOp _ s)).trans (runStages_cons _ ops (exec_modulation _ _))

theorem runStages_blendOps :
    runStages (blendOps s.dp.frag.ste s.dp.frag.bm ++ ops) s =
      runStages ops (s.withDp (s.dp.composite s.store s.dp.frag.bm s.dp.req)) := by
  cases hste : s.dp.frag.ste with
  | false =>
    rw [Datapath.req, hste, request_false, composite_unrequested s.dp s.store _ .avg]
    rfl
  | true => exact runStages_cons s ops (exec_blendOp _ s)

end

/-! ### All stages -/

/-- The outcome of the last two groups after the texture stage: a discard, or the word of R124. -/
theorem outcome_of_textured (p : Params) (m : Memory) (dp : Datapath) :
    let dp' := dp.textured (texelOf p m dp.frag)
    ((dp'.composite m dp.frag.bm dp'.req).format p).outcome = some (fragmentResult p m dp.frag) := by
  intro dp'
  rw [fragmentResult_eq]
  by_cases h : texelOf p m dp.frag = .transparent
  · have hdp : dp' = { dp with texel := .transparent, outcome := some .discard } := by
      simp only [dp', Datapath.textured, h, if_true]
    rw [if_pos h, hdp, composite_of_transparent _ _ _ rfl, format_of_transparent _ rfl]
  · have hdp : dp' = { dp with
        texel := texelOf p m dp.frag, front := preBlendColor dp.frag (texelOf p m dp.frag) } := by
      simp only [dp', Datapath.textured, h, if_false]
    rw [if_neg h, hdp, composite_of_not_transparent _ _ _ h, format_of_not_transparent _ h]
    rfl

/-- The fragment under evaluation after dithering. -/
def Datapath.dithered (f : Frag) : Datapath :=
  { Datapath.start f with shade := dither (Machine.shade f) (dest f) f.dth }

/-- The fragment under evaluation after the texture stage. -/
def Datapath.beforeBlend (p : Params) (m : Memory) (f : Frag) : Datapath :=
  (Datapath.dithered f).textured (texelOf p m f)

theorem frag_beforeBlend (p : Params) (m : Memory) (f : Frag) : (Datapath.beforeBlend p m f).frag = f := by
  unfold Datapath.beforeBlend Datapath.textured
  split <;> rfl

theorem evalByStages_eq (f : Frag) (s : State) :
    evalByStages f s = .next (s.withDp (((Datapath.beforeBlend s.params s.store f).composite s.store f.bm
      (Datapath.beforeBlend s.params s.store f).req).format s.params)) := by
  have hblend := runStages_blendOps (s.withDp (Datapath.beforeBlend s.params s.store f)) [.outFormat]
  rw [State.dp_withDp, frag_beforeBlend] at hblend
  calc evalByStages f s
    _ = runStages (textureOps f.tex f.tbl f.depth ++ (blendOps f.ste f.bm ++ [.outFormat]))
          (s.withDp (Datapath.dithered f)) := by
      rw [evalByStages, stageOps_eq, List.append_assoc, List.append_assoc, runStages_ditherOps]
      rfl
    _ = runStages (blendOps f.ste f.bm ++ [.outFormat])
          (s.withDp (Datapath.beforeBlend s.params s.store f)) :=
      runStages_textureOps (s.withDp (Datapath.dithered f)) _ rfl
    _ = _ := hblend

/-- Settles O45: the groups of stages, run one after another, leave the outcome of R124 in the fragment under
evaluation, and a selector writes nothing else. -/
theorem selectedStagesComputeFragmentResult : Obligations.SelectedStagesComputeFragmentResult := fun f s =>
  ⟨_, evalByStages_eq f s, outcome_of_textured s.params s.store (Datapath.dithered f), rfl⟩

end Sys2Proof.Machine
end

section
/-! PROOFS. Reset, and the host at the store (10_state.md section 7, 70_reset_and_hazards.md section 1,
20_memory.md R54, R67). -/

namespace Sys2Proof.Machine

/-! ### Reset -/

/-- Settles O56: the reset state is a literal, and a store with no cell reads the free value. -/
theorem resetLeavesTheResetValues : Obligations.ResetLeavesTheResetValues :=
  ⟨by decide, rfl, rfl, rfl, by decide, by decide, rfl, rfl, rfl, fun _ => rfl⟩

/-- Settles O57: STATUS shows FAULTED, CODE and PEND, which reset clears. -/
theorem hardResetClearsTheBlockAndKeepsTheStore : Obligations.HardResetClearsTheBlockAndKeepsTheStore := by
  intro s ws
  have hstatus : (s.hardReset ws).status = State.reset.status := rfl
  exact ⟨hstatus.trans (by decide), rfl, rfl, rfl, rfl, rfl, rfl, rfl, rfl⟩

/-! ### The host -/

section

variable {s : State} (a : Addr)

theorem hostReadWord_of_pend (h : s.pend = true) : hostReadWord a s = .error .hostAccessWhilePending := by
  rw [hostReadWord, if_pos h]

theorem hostWriteWord_of_pend (v : Pixel) (h : s.pend = true) :
    hostWriteWord a v s = .refused .hostAccessWhilePending := by
  rw [hostWriteWord, if_pos h]

variable (h : s.pending = [])
include h

theorem pend_of_pending_nil : s.pend = false := by
  rw [State.pend, h]
  rfl

theorem hostReadWord_of_idle : hostReadWord a s = .ok (s.store.readWord a) := by
  rw [hostReadWord, pend_of_pending_nil h]
  rfl

theorem hostWriteWord_of_idle (v : Pixel) :
    hostWriteWord a v s = .next { s with store := s.store.writeWord a v } := by
  rw [hostWriteWord, pend_of_pending_nil h]
  rfl

theorem hostReadByte_of_idle (k : Fin 2) :
    hostReadByte a k s = .ok (wordByte s.params.byteOrder (s.store.readWord a) k) := by
  rw [hostReadByte, pend_of_pending_nil h]
  rfl

end

/-- Settles O58: a word access is refused while PEND is set, and is one access of the store otherwise. -/
theorem hostTouchesTheStoreOnlyBetweenBatches : Obligations.HostTouchesTheStoreOnlyBetweenBatches := by
  intro s a v
  constructor
  · intro hpending
    have hpend := (pend_eq_true_iff s).2 hpending
    exact ⟨hostReadWord_of_pend a hpend, hostWriteWord_of_pend a v hpend⟩
  · intro hidle
    have hread := hostReadWord_of_idle (s := { s with store := s.store.writeWord a v }) a hidle
    rw [readWord_writeWord_same] at hread
    exact ⟨hostReadWord_of_idle a hidle, _, hostWriteWord_of_idle a hidle v, hread,
      fun b hb => readWord_writeWord_other s.store v hb, rfl⟩

/-! ### Bytes -/

theorem low_byte_append (hi lo : Byte) : (hi ++ lo).extractLsb' 0 8 = lo := BitVec.extractLsb'_append_eq_right

theorem high_byte_append (hi lo : Byte) : (hi ++ lo).extractLsb' 8 8 = hi := BitVec.extractLsb'_append_eq_left

theorem wordByte_setWordByte_same (o : ByteOrder) (w : Pixel) (k : Fin 2) (v : Byte) :
    wordByte o (setWordByte o w k v) k = v := by
  by_cases hk : k = 0
  · cases o <;> simp only [wordByte, setWordByte, hk, if_true, low_byte_append, high_byte_append]
  · cases o <;> simp only [wordByte, setWordByte, hk, if_false, low_byte_append, high_byte_append]

/-- The byte of the other index is the other half of the word. -/
theorem wordByte_setWordByte_other (o : ByteOrder) (w : Pixel) {j k : Fin 2} (v : Byte) (h : j ≠ k) :
    wordByte o (setWordByte o w k v) j = wordByte o w j := by
  obtain ⟨hk, hj⟩ | ⟨hk, hj⟩ : k = 0 ∧ j ≠ 0 ∨ k ≠ 0 ∧ j = 0 := by omega
  · cases o <;> simp only [wordByte, setWordByte, hk, hj, if_true, if_false, low_byte_append, high_byte_append]
  · cases o <;> simp only [wordByte, setWordByte, hk, hj, if_true, if_false, low_byte_append, high_byte_append]

/-- Settles O59: the word with its byte replaced is written and read back. -/
theorem hostBytesFollowTheByteOrder : Obligations.HostBytesFollowTheByteOrder := by
  intro s a k v hidle
  constructor
  · let w := setWordByte s.params.byteOrder (s.store.readWord a) k v
    have hread : ∀ j, hostReadByte a j { s with store := s.store.writeWord a w } =
        .ok (wordByte s.params.byteOrder w j) := fun j => by
      rw [hostReadByte_of_idle (s := { s with store := s.store.writeWord a w }) a hidle,
        readWord_writeWord_same]
    refine ⟨_, hostWriteWord_of_idle a hidle w, ?_, fun j hj => ?_⟩
    · rw [hread, wordByte_setWordByte_same]
    · rw [hread, hostReadByte_of_idle a hidle, wordByte_setWordByte_other _ _ v hj]
  · rw [hostReadByte_of_idle a hidle]
    cases s.params.byteOrder <;> rfl

end Sys2Proof.Machine
end
